-- ==== Sys2Proof/Word.lean ====
section
/-! DEFINITION. The machine's word types (R6: host registers are 32 bits; framebuffer, wire and ROM
bytes are 8 bits; the coordinate fields of ARG0 and ARG1 are 16 bits). -/

namespace Sys2Proof

/-- A host register or host data word: 32 bits (R6). -/
abbrev Word := BitVec 32

/-- A coordinate, size or colour field of an ARG register: 16 bits (R94, R95). -/
abbrev Half := BitVec 16

/-- A framebuffer, wire or ROM byte: 8 bits (R6). -/
abbrev Byte := BitVec 8

end Sys2Proof
end

