-- ==== Sys2Proof/Config.lean ====
section
/-! DEFINITION. The parameter record of a configured EPS (R6), when it is legal, the variants the
spec names (R7), and the free values: constants without a body that stand for what the spec leaves
open (93_implementation_defined.md U1, U4; the LUT contents of R185). -/

namespace Sys2Proof

/-- The six entries of the INIT ROM, in the order they are sent (R40). -/
inductive InitStep
  | panelConfig | softStart | vcom | dummyLine | gateTime | entryMode
  deriving DecidableEq, Repr

/-- One INIT ROM entry: a command byte and 0 to 15 data bytes (R40). -/
structure InitEntry where
  cmd  : Byte
  data : List Byte
  deriving DecidableEq, Repr

/-- The address counter direction that the panel takes from INIT_TABLE[5] (R40, R161). The bytes'
meaning is the panel's, so the record carries what they select beside them. -/
structure EntryMode where
  xIncrement : Bool
  yIncrement : Bool
  xFirst     : Bool
  deriving DecidableEq, Repr

/-- `PAGE_PRECLEAR` (R6): what is done to the page buffer before each page request. -/
inductive Preclear
  | retain | white
  deriving DecidableEq, Repr

/-- The parameter record (R6). It is fixed for a configured EPS; no step changes it. -/
structure Params where
  /-- `W`, panel width in pixels. -/
  width          : Nat
  /-- `H`, panel height in pixels. -/
  height         : Nat
  /-- `BPP`, bits per pixel. -/
  bpp            : Nat
  /-- `FB_BYTES`, size of the framebuffer store. -/
  fbBytes        : Nat
  /-- `PAGE_COUNT`. -/
  pageCount      : Nat
  /-- `LUT_FULL[0..30]`. -/
  lutFull        : List Byte
  /-- `LUT_PART[0..30]`. -/
  lutPart        : List Byte
  /-- `INIT_TABLE[0]`. -/
  panelConfig    : InitEntry
  /-- `INIT_TABLE[1]`. -/
  softStart      : InitEntry
  /-- `INIT_TABLE[2]`. -/
  vcom           : InitEntry
  /-- `INIT_TABLE[3]`. -/
  dummyLine      : InitEntry
  /-- `INIT_TABLE[4]`. -/
  gateTime       : InitEntry
  /-- `INIT_TABLE[5]`. -/
  entryMode      : InitEntry
  /-- What `INIT_TABLE[5]` selects on the panel (R40, R161). -/
  entrySelects   : EntryMode
  pwrOnCtrl      : Byte
  pwrOffCtrl     : Byte
  updCtrlFull    : Byte
  updCtrlPart    : Byte
  settleMs       : Nat
  pollMs         : Nat
  padFb          : Byte
  padBmp         : Byte
  busyActive     : Bool
  pagePreclear   : Preclear
  winPass2Trigger : Bool
  resetPulseMs   : Nat
  resetRecoverMs : Nat
  deriving DecidableEq, Repr

/-- `WB`, window width in bytes of a full row (R6). -/
def Params.wb (p : Params) : Nat := p.width / 8

/-- `PAGE_H`, rows per page (R6). -/
def Params.pageH (p : Params) : Nat := p.height / p.pageCount

/-- `PAGE_BYTES`, bytes per page (R6). -/
def Params.pageBytes (p : Params) : Nat := p.wb * p.pageH

/-- The INIT ROM as a table by entry (R40). -/
def Params.initEntry (p : Params) : InitStep → InitEntry
  | .panelConfig => p.panelConfig
  | .softStart   => p.softStart
  | .vcom        => p.vcom
  | .dummyLine   => p.dummyLine
  | .gateTime    => p.gateTime
  | .entryMode   => p.entryMode

/-- INIT ROM order: `k = 0 .. 5` (R40, R192). -/
def InitStep.all : List InitStep :=
  [.panelConfig, .softStart, .vcom, .dummyLine, .gateTime, .entryMode]

/-- The legal geometry of R6: `W` a multiple of 8 in 8..2048, `H` in 1..65535, one bit per pixel,
`PAGE_COUNT` in 1..127 dividing `H`, `FB_BYTES` in 1..65536 and at least `PAGE_BYTES`. -/
def Params.legalGeometry (p : Params) : Bool :=
  p.width % 8 == 0 && decide (8 ≤ p.width) && decide (p.width ≤ 2048)
    && decide (1 ≤ p.height) && decide (p.height ≤ 65535) && p.bpp == 1
    && decide (1 ≤ p.pageCount) && decide (p.pageCount ≤ 127) && p.height % p.pageCount == 0
    && decide (1 ≤ p.fbBytes) && decide (p.fbBytes ≤ 65536) && decide (p.pageBytes ≤ p.fbBytes)

/-- The legal ROMs: LUT tables of 31 bytes with byte 0 = 0x32 (R39, R184), INIT entries of at most 15
data bytes with ENTRY_MODE as R161 wants it (R40), and control bytes that differ (R41). -/
def Params.legalRoms (p : Params) : Bool :=
  p.lutFull.length == 31 && p.lutFull.head? == some 0x32#8
    && p.lutPart.length == 31 && p.lutPart.head? == some 0x32#8
    && InitStep.all.all (fun k => decide ((p.initEntry k).data.length ≤ 15))
    && p.entrySelects == ⟨true, false, true⟩
    && p.updCtrlFull != p.updCtrlPart

/-- A parameter record the EPS may be configured with (R6, R40, R41, R184). A record that breaks this
is refused before any run (93_implementation_defined.md U3). -/
def Params.legal (p : Params) : Bool :=
  decide (1 ≤ p.pollMs) && (p.legalGeometry && p.legalRoms)

/-! ## Free values -/

/-- FREE VALUE (U1): what framebuffer byte `addr` holds after power-up number `powerUp` until it is
written. -/
opaque Config.powerUpByte : (powerUp addr : Nat) → Byte

/-- FREE VALUE (R81): what the host's source memory holds at `addr` where the model lists nothing. -/
opaque Config.sourceByte : (powerUp addr : Nat) → Byte

/-- FREE VALUE (R80, U4): which of the admitted values a raced source read takes, by draw. -/
opaque Config.raceChoice : (draw : Nat) → Nat

/-- The panel variants the spec names (R7). -/
inductive Variant
  | v213 | v154 | v60
  deriving DecidableEq, Repr

/-- FREE VALUE (R185): the waveform parameter bytes of a variant's two LUTs (`part = true` for LUT_PART).
They are OPEN per variant, so nothing makes two variants' tables equal (R7). -/
opaque Config.lutParameter : (variant : Variant) → (part : Bool) → (index : Nat) → Byte

/-! ## Configured variants -/

/-- A variant's LUT table, its 30 parameter bytes free values (R39, R185). -/
def Params.openLut (variant : Variant) (part : Bool) : List Byte :=
  0x32#8 :: (List.range 30).map (fun i => Config.lutParameter variant part (i + 1))

/-- The spec defaults of R6 for a variant with a panel of `w` by `h` pixels, with `fbBytes` of store and
`pages` pages. PRESUMED: INIT_TABLE from 93_implementation_defined.md G1 and the control bytes from G2. -/
def Params.defaults (variant : Variant) (w h fbBytes pages : Nat) : Params where
  width := w
  height := h
  bpp := 1
  fbBytes := fbBytes
  pageCount := pages
  lutFull := Params.openLut variant false
  lutPart := Params.openLut variant true
  panelConfig := ⟨0x01#8, [BitVec.ofNat 8 (h - 1), BitVec.ofNat 8 ((h - 1) / 256), 0x00#8]⟩
  softStart := ⟨0x0C#8, [0xD7#8, 0xD6#8, 0x9D#8]⟩
  vcom := ⟨0x2C#8, [0xA8#8]⟩
  dummyLine := ⟨0x3A#8, [0x1A#8]⟩
  gateTime := ⟨0x3B#8, [0x08#8]⟩
  entryMode := ⟨0x11#8, [0x01#8]⟩
  entrySelects := ⟨true, false, true⟩
  pwrOnCtrl := 0xC0#8
  pwrOffCtrl := 0xC3#8
  updCtrlFull := 0xC4#8
  updCtrlPart := 0x04#8
  settleMs := 300
  pollMs := 1
  padFb := 0x00#8
  padBmp := 0x00#8
  busyActive := true
  pagePreclear := .retain
  winPass2Trigger := false
  resetPulseMs := 0
  resetRecoverMs := 0

/-- Variant `V213`: 128 by 250, full-buffer build, 5 pages (R7; PAGE_COUNT as in §8). -/
def Params.v213 : Params := Params.defaults .v213 128 250 4000 5

/-- Variant `V154`: 200 by 200, full-buffer build, 5 pages (R7; PAGE_COUNT as in §8). -/
def Params.v154 : Params := Params.defaults .v154 200 200 5000 5

/-- Variant `V60`, whose geometry, store and page count are OPEN in R7 and so are arguments. -/
def Params.v60 (w h fbBytes pages : Nat) : Params := Params.defaults .v60 w h fbBytes pages

end Sys2Proof
end

