-- ==== Sys2Proof/Syntax.lean ====
section
/-! DEFINITION. The instructions of the EPS: one constructor per row of spec/opcode_table.json. The
first eleven are the host requests (R92), whose operands come from ARG0 to ARG3 and, for two of them,
from the P bit of the CMD word. The others are the wire commands the sequencer emits (R100), with the
data bytes that follow the command byte as operands; the six INIT_TABLE entries carry their command
byte as well, because it is an OPEN parameter (R40). -/

namespace Sys2Proof

/-- An instruction of either layer (R2). -/
inductive Instr
  /-- NOP, R122. -/
  | nop
  /-- INIT, R123. -/
  | init
  /-- FILL, R245. -/
  | fill
  /-- SETPIXEL, R242. -/
  | setpixel
  /-- UPDATE, R202. -/
  | update
  /-- DRAWBITMAP with its P bit, R203. -/
  | drawbitmap (p : Bool)
  /-- UPDATEWINDOW, R204. -/
  | updatewindow
  /-- DRAWPAGED, R206. -/
  | drawpaged
  /-- ERASE with its P bit, R208. -/
  | erase (p : Bool)
  /-- SETROTATION, R124. -/
  | setrotation
  /-- PAGEDONE, R125. -/
  | pagedone
  /-- 0x44 SET_RAM_X_RANGE, R164. -/
  | setRamXRange (xStart xEnd : Byte)
  /-- 0x45 SET_RAM_Y_RANGE, R165. -/
  | setRamYRange (yStart yStartHigh yEnd yEndHigh : Byte)
  /-- 0x4E SET_RAM_X_PTR, R166. -/
  | setRamXPtr (addrX : Byte)
  /-- 0x4F SET_RAM_Y_PTR, R167. -/
  | setRamYPtr (addrY addrYHi : Byte)
  /-- 0x32 WRITE_LUT with LUT ROM bytes 1..30, R181. -/
  | writeLut (lut : List Byte)
  /-- 0x24 WRITE_RAM with the transformed pixel bytes of the window, R196. -/
  | writeRam (pixels : List Byte)
  /-- 0x22 UPDATE_CTRL, R194. -/
  | updateCtrl (ctrl : Byte)
  /-- 0x20 ACTIVATE, R195. -/
  | activate
  /-- 0xFF END, R199. -/
  | endUpdate
  /-- INIT_TABLE[0] PANEL_CONFIG, R192. -/
  | initPanelConfig (cmd : Byte) (data : List Byte)
  /-- INIT_TABLE[1] SOFT_START, R192. -/
  | initSoftStart (cmd : Byte) (data : List Byte)
  /-- INIT_TABLE[2] VCOM, R192. -/
  | initVcom (cmd : Byte) (data : List Byte)
  /-- INIT_TABLE[3] DUMMY_LINE, R192. -/
  | initDummyLine (cmd : Byte) (data : List Byte)
  /-- INIT_TABLE[4] GATE_TIME, R192. -/
  | initGateTime (cmd : Byte) (data : List Byte)
  /-- INIT_TABLE[5] ENTRY_MODE, R192. -/
  | initEntryMode (cmd : Byte) (data : List Byte)
  deriving DecidableEq, Repr

end Sys2Proof
end

