-- ==== Sys2Proof/WellFormed.lean ====
section
/-! DEFINITION. Which instructions are well formed: the number of data bytes of each wire command is
the one R100 gives it. Host requests and the fixed-shape wire commands always are. -/

namespace Sys2Proof

/-- The most pixel bytes a window can have: 256 byte columns (`W <= 2048`) by 65535 rows (R6, R160). -/
def maxPixels : Nat := 256 * 65535

/-- The data byte counts of R100: 30 for WRITE_LUT, `nb * nr >= 1` for WRITE_RAM, 0 to 15 for an
INIT_TABLE entry. -/
def Instr.wellFormed : Instr → Bool
  | .writeLut lut           => lut.length == 30
  | .writeRam pixels        => decide (1 ≤ pixels.length) && decide (pixels.length ≤ maxPixels)
  | .initPanelConfig _ data => decide (data.length ≤ 15)
  | .initSoftStart _ data   => decide (data.length ≤ 15)
  | .initVcom _ data        => decide (data.length ≤ 15)
  | .initDummyLine _ data   => decide (data.length ≤ 15)
  | .initGateTime _ data    => decide (data.length ≤ 15)
  | .initEntryMode _ data   => decide (data.length ≤ 15)
  | .nop | .init | .fill | .setpixel | .update | .drawbitmap _ | .updatewindow | .drawpaged
  | .erase _ | .setrotation | .pagedone => true
  | .setRamXRange _ _ | .setRamYRange _ _ _ _ | .setRamXPtr _ | .setRamYPtr _ _
  | .updateCtrl _ | .activate | .endUpdate => true

end Sys2Proof
end

