-- ==== Sys2Proof/Decode.lean ====
section
/-! DEFINITION. Decoding and encoding. An encoded instruction is either the 32-bit word of a host
write to CMD (R91) or one wire command: a command byte, the data bytes up to the next command item
(R101) and the framing it is sent with (R146). The decoder is total and rejects by name. -/

namespace Sys2Proof

/-- How a wire command is framed (R146): its items single transactions, or one burst, which is the
LUT's or an INIT ROM entry's (the sequencer knows which entry it sends; its byte is OPEN, R40). -/
inductive Frame
  | single
  | lutBurst
  | initBurst (k : InitStep)
  deriving DecidableEq, Repr

/-- An encoded instruction of either layer (R90, R99). -/
inductive Encoded
  | cmdWord (v : Word)
  | wire (frame : Frame) (code : Byte) (data : List Byte)
  deriving DecidableEq, Repr

/-- Why a word or a wire command is no instruction. -/
inductive DecodeError
  /-- OP is 0xB to 0xF (R93). -/
  | reservedOpcode
  /-- RSV0 or RSV1 is not 0 (R93). -/
  | reservedBits
  /-- P = 1 with an opcode other than DRAWBITMAP and ERASE (R93). -/
  | partialNotDefined
  /-- A single-framed command byte that is none of R100's codes, or a burst that is not the LUT's. -/
  | unknownCode
  /-- The number of data bytes is not the one R100 gives the code. -/
  | wrongDataCount
  deriving DecidableEq, Repr

/-! ## Host CMD words (R91) -/

/-- `OP`, bits [3:0]. -/
def cmdOp (v : Word) : BitVec 4 := v.extractLsb' 0 4

/-- `RSV0`, bits [7:4]. -/
def cmdRsv0 (v : Word) : BitVec 4 := v.extractLsb' 4 4

/-- `P`, bit [8]. -/
def cmdP (v : Word) : Bool := v.getLsbD 8

/-- `RSV1`, bits [31:9]. -/
def cmdRsv1 (v : Word) : BitVec 23 := v.extractLsb' 9 23

/-- The request a legal opcode selects, given the P bit where the opcode defines it (R92). -/
def requestOf (op : BitVec 4) (p : Bool) : Except DecodeError Instr :=
  if op = 5#4 then .ok (.drawbitmap p)
  else if op = 8#4 then .ok (.erase p)
  else if 10#4 < op then .error .reservedOpcode
  else if p then .error .partialNotDefined
  else if op = 0#4 then .ok .nop
  else if op = 1#4 then .ok .init
  else if op = 2#4 then .ok .fill
  else if op = 3#4 then .ok .setpixel
  else if op = 4#4 then .ok .update
  else if op = 6#4 then .ok .updatewindow
  else if op = 7#4 then .ok .drawpaged
  else if op = 9#4 then .ok .setrotation
  else .ok .pagedone

/-- Decode a CMD word: every word is one row of R92 or ILLEGAL (R93). -/
def decodeCmd (v : Word) : Except DecodeError Instr :=
  if cmdRsv0 v = 0#4 ∧ cmdRsv1 v = 0#23 then requestOf (cmdOp v) (cmdP v)
  else .error .reservedBits

/-! ## Wire commands (R100) -/

/-- Decode a wire command whose items are single transactions, by its code (R100). -/
def decodeSingle (code : Byte) (data : List Byte) : Except DecodeError Instr :=
  if code = 0x44#8 then
    match data with
    | [a, b] => .ok (.setRamXRange a b)
    | _      => .error .wrongDataCount
  else if code = 0x45#8 then
    match data with
    | [a, b, c, d] => .ok (.setRamYRange a b c d)
    | _            => .error .wrongDataCount
  else if code = 0x4E#8 then
    match data with
    | [a] => .ok (.setRamXPtr a)
    | _   => .error .wrongDataCount
  else if code = 0x4F#8 then
    match data with
    | [a, b] => .ok (.setRamYPtr a b)
    | _      => .error .wrongDataCount
  else if code = 0x24#8 then
    if 1 ≤ data.length ∧ data.length ≤ maxPixels then .ok (.writeRam data)
    else .error .wrongDataCount
  else if code = 0x22#8 then
    match data with
    | [a] => .ok (.updateCtrl a)
    | _   => .error .wrongDataCount
  else if code = 0x20#8 then
    match data with
    | [] => .ok .activate
    | _  => .error .wrongDataCount
  else if code = 0xFF#8 then
    match data with
    | [] => .ok .endUpdate
    | _  => .error .wrongDataCount
  else .error .unknownCode

/-- The instruction of INIT ROM entry `k` (R192). -/
def initInstr (k : InitStep) (cmd : Byte) (data : List Byte) : Instr :=
  match k with
  | .panelConfig => .initPanelConfig cmd data
  | .softStart   => .initSoftStart cmd data
  | .vcom        => .initVcom cmd data
  | .dummyLine   => .initDummyLine cmd data
  | .gateTime    => .initGateTime cmd data
  | .entryMode   => .initEntryMode cmd data

/-- Decode a wire command (R100, R144). -/
def decodeWire (frame : Frame) (code : Byte) (data : List Byte) : Except DecodeError Instr :=
  match frame with
  | .single   => decodeSingle code data
  | .lutBurst =>
    if code = 0x32#8 then
      if data.length = 30 then .ok (.writeLut data) else .error .wrongDataCount
    else .error .unknownCode
  | .initBurst k =>
    if data.length ≤ 15 then .ok (initInstr k code data) else .error .wrongDataCount

/-- Decode an encoded instruction; total, rejecting by name. -/
def decode : Encoded → Except DecodeError Instr
  | .cmdWord v             => decodeCmd v
  | .wire frame code data  => decodeWire frame code data

/-! ## The encoder, from the same tables -/

/-- A CMD word with opcode `op` and P bit `p`, the reserved fields zero (R91). -/
def cmdWordOf (op : BitVec 4) (p : Bool) : Word :=
  0#23 ++ BitVec.ofBool p ++ 0#4 ++ op

/-- The encoding of an instruction (R91, R92, R100). -/
def encode : Instr → Encoded
  | .nop          => .cmdWord (cmdWordOf 0#4 false)
  | .init         => .cmdWord (cmdWordOf 1#4 false)
  | .fill         => .cmdWord (cmdWordOf 2#4 false)
  | .setpixel     => .cmdWord (cmdWordOf 3#4 false)
  | .update       => .cmdWord (cmdWordOf 4#4 false)
  | .drawbitmap p => .cmdWord (cmdWordOf 5#4 p)
  | .updatewindow => .cmdWord (cmdWordOf 6#4 false)
  | .drawpaged    => .cmdWord (cmdWordOf 7#4 false)
  | .erase p      => .cmdWord (cmdWordOf 8#4 p)
  | .setrotation  => .cmdWord (cmdWordOf 9#4 false)
  | .pagedone     => .cmdWord (cmdWordOf 10#4 false)
  | .setRamXRange a b     => .wire .single 0x44#8 [a, b]
  | .setRamYRange a b c d => .wire .single 0x45#8 [a, b, c, d]
  | .setRamXPtr a         => .wire .single 0x4E#8 [a]
  | .setRamYPtr a b       => .wire .single 0x4F#8 [a, b]
  | .writeLut lut         => .wire .lutBurst 0x32#8 lut
  | .writeRam pixels      => .wire .single 0x24#8 pixels
  | .updateCtrl c         => .wire .single 0x22#8 [c]
  | .activate             => .wire .single 0x20#8 []
  | .endUpdate            => .wire .single 0xFF#8 []
  | .initPanelConfig cmd data => .wire (.initBurst .panelConfig) cmd data
  | .initSoftStart cmd data   => .wire (.initBurst .softStart) cmd data
  | .initVcom cmd data        => .wire (.initBurst .vcom) cmd data
  | .initDummyLine cmd data   => .wire (.initBurst .dummyLine) cmd data
  | .initGateTime cmd data    => .wire (.initBurst .gateTime) cmd data
  | .initEntryMode cmd data   => .wire (.initBurst .entryMode) cmd data

/-! ## Words as spec/opcode_table.json numbers them -/

/-- How many data bytes follow a wire code (R100); for 0x24 the smallest window's one byte. -/
def tableDataCount (code : Byte) : Nat :=
  if code = 0x44#8 then 2
  else if code = 0x45#8 then 4
  else if code = 0x4E#8 then 1
  else if code = 0x4F#8 then 2
  else if code = 0x32#8 then 30
  else if code = 0x24#8 then 1
  else if code = 0x22#8 then 1
  else 0

/-- A wire code with its data bytes zero. -/
def wireOfCode (code : Byte) : Encoded :=
  .wire (if code = 0x32#8 then .lutBurst else .single) code
    (List.replicate (tableDataCount code) 0#8)

/-- The encoded instruction whose table bits are `w`. A row of at most 8 bits is a wire code and a row
of 32 bits a CMD word. The table's reader gave the row WRITE_LUT a field at bit 30 (98_reader.md: the
spec's words are right where they differ), so that row is also taken in a 32-bit word. -/
def tableEncoded (nbits w : Nat) : Option Encoded :=
  if nbits ≤ 8 then
    if w < 256 then some (wireOfCode (BitVec.ofNat 8 w)) else none
  else if w = 0x32 ∨ w = 0x40000032 then some (wireOfCode 0x32#8)
  else if w < 2 ^ 32 then some (.cmdWord (BitVec.ofNat 32 w))
  else none

/-- The instruction the decoder reads from an instruction whose bits are `w`, numbered as
spec/opcode_table.json numbers them. -/
def decodeTableWord (nbits w : Nat) : Option Instr :=
  match tableEncoded nbits w with
  | some e => (decode e).toOption
  | none   => none

end Sys2Proof
end

