-- ==== Sys2Proof/Machine/State.lean ====
section
/-! DEFINITION. The state of the EPS (R20) with its ports (R8), the agents' schedule (R9) and the
observation (R10), as plain data; the reasons a step can stop; the state after reset (R280). -/

namespace Sys2Proof.Machine

/-- A byte memory: address and byte pairs, addresses strictly rising. An address that is not listed
has not been written since power-up and holds no value (R61). -/
abbrev Memory := List Host.Cell

/-- PHASE (R24). The encodings 9 to 15 are never held, so they have no constructor. -/
inductive Phase
  | idle | ponFull | ponPart | transfer | trigger | poff | pageWait | settle | resetting
  deriving DecidableEq, Repr

/-- LAST_ERR codes (R33); 4 to 15 are never written. -/
inductive ErrCode
  /-- 0 NONE: the last CMD write was accepted. -/
  | accepted
  /-- 1 ILLEGAL (R261). -/
  | illegal
  /-- 2 BUSY (R262). -/
  | busy
  /-- 3 STATE (R263). -/
  | state
  deriving DecidableEq, Repr

/-- Where a `Pix` action takes its byte from (R197). -/
inductive Source
  | fb | page | bmp | zero
  deriving DecidableEq, Repr

/-- A bus item (R99); `dc = true` is a data item. -/
structure BusItem where
  dc    : Bool
  byte  : Byte
  first : Bool
  last  : Bool
  deriving DecidableEq, Repr

/-- Whose burst a `BurstCmd` opens: an INIT ROM entry's (R192) or the LUT's (R180). -/
inductive BurstOf
  | initEntry (k : InitStep)
  | lut
  deriving DecidableEq, Repr

/-- The sequencer's actions (R23). `BurstCmd` also says whose burst it opens. -/
inductive Action
  /-- R142. -/
  | cmd (b : Byte)
  /-- R144. -/
  | burstCmd (of : BurstOf) (b : Byte) (last : Bool)
  /-- R143. -/
  | dat (b : Byte) (first last : Bool)
  /-- R196. -/
  | pix (src : Source) (r c : Nat)
  /-- R141. -/
  | waitBusy
  /-- R149. -/
  | delay (n : Nat)
  /-- R191. -/
  | setPhase (p : Phase)
  /-- R206. -/
  | setCursor (v : BitVec 8)
  /-- R206. -/
  | preclear
  /-- R207. -/
  | raisePageReq
  /-- R207. -/
  | awaitPage
  /-- R123. -/
  | setRst (level : Bool)
  /-- R201. -/
  | done
  deriving DecidableEq, Repr

/-- One host-bus access (R66, R90). -/
structure HostAccess where
  write : Bool
  addr  : BitVec 17
  wdata : Word
  deriving DecidableEq, Repr

/-- One agent's turn (R9): what the next step is. -/
inductive Turn
  /-- The Host makes a bus access. -/
  | host (a : HostAccess)
  /-- The Sequencer takes a step. -/
  | sequencer
  /-- The Panel drives `busy_in`. -/
  | busyIn (level : Bool)
  /-- The Transport drives `tx_ready`. -/
  | txReady (level : Bool)
  /-- The Host's source port drives `s_ack`. -/
  | sAck (level : Bool)
  /-- The Host writes one byte of its source memory SRC (R65). -/
  | srcWrite (a : Word) (v : Byte)
  /-- The Timer pulses `tick_1ms`. -/
  | tick
  /-- The platform drives `rst_n` (R280, R281). -/
  | rstN (level : Bool)
  deriving DecidableEq, Repr

/-- ARG0 to ARG3 (R21). -/
structure Args where
  arg0 : Word
  arg1 : Word
  arg2 : Word
  arg3 : Word
  deriving DecidableEq, Repr

/-- The latched operands (R42). -/
structure Latched where
  lOp   : BitVec 4
  lP    : Bool
  lX    : Half
  lY    : Half
  lW    : Half
  lH    : Half
  lBase : Word
  lSize : Word
  deriving DecidableEq, Repr

/-- The ports (R8) other than `busy_in`, whose sample is `busyS`, and `panel_rst_n`, which is `rstOut`:
the levels the other agents drive, and the EPS's outputs on the source port and the host bus. -/
structure Pins where
  /-- `rst_n`. -/
  rstN    : Bool
  /-- `tx_ready`, driven by the Transport. -/
  txReady : Bool
  /-- `s_ack`, driven by the Host. -/
  sAck    : Bool
  /-- `s_req` with `s_addr`: the source read on request, if any. -/
  sReq    : Option Word
  /-- `h_rdata`: what the last host read returned. -/
  hRdata  : Word
  deriving DecidableEq, Repr

/-- The machine state. The first block is R20's inventory, in its order; the rest are the parameter
record (R6), the ports (R8), the hold bookkeeping that R141 and R149 imply, the Host's SRC memory
(R65, R80), the free-value indexes, the schedule of turns (R9) and the observation (R10). -/
structure State where
  /-- ARG0..ARG3. -/
  args        : Args
  /-- `ACTS`. -/
  acts        : List Action
  /-- `pc`, the action cursor. -/
  pc          : Nat
  /-- PHASE. -/
  phase       : Phase
  /-- SEQ_BUSY. -/
  seqBusy     : Bool
  /-- PAGE_REQ. -/
  pageReq     : Bool
  /-- PARTIAL. -/
  partialLut  : Bool
  /-- CLIP. -/
  clip        : Bool
  /-- GATE_WAIT. -/
  gateWait    : Bool
  /-- `busy_s`, STATUS.PANEL_BUSY. -/
  busyS       : Bool
  /-- PAGE_CURSOR, two's complement. -/
  pageCursor  : BitVec 8
  /-- ROTATION. -/
  rotation    : BitVec 2
  /-- LAST_ERR. -/
  lastErr     : ErrCode
  /-- `L_*`. -/
  latched     : Latched
  /-- PDONE. -/
  pdone       : Bool
  /-- DCNT. -/
  dcnt        : Word
  /-- `txq`: the bus item on offer; `none` is the valid bit clear. -/
  txq         : Option BusItem
  /-- `rst_out`, the level of `panel_rst_n`. -/
  rstOut      : Bool
  /-- FB. -/
  fb          : Memory
  /-- The parameter record, with the LUT, INIT and CTRL ROMs in it (R6, R39 to R41). -/
  params      : Params
  /-- The ports. -/
  pins        : Pins
  /-- Ticks since the busy gate's last check (R141). -/
  pollTicks   : Nat
  /-- The current `Delay` has loaded DCNT (R149). -/
  delayOn     : Bool
  /-- SRC, the Host's source memory. -/
  src         : Memory
  /-- SRC bytes overwritten since the running DRAWBITMAP was accepted, newest first (R80). -/
  srcOld      : List Host.Cell
  /-- Index of the power-up whose framebuffer contents the free value U1 draws. -/
  powerUp     : Nat
  /-- Index of the next draw of a raced source byte (U4). -/
  draw        : Nat
  /-- The agents' turns still to come, first one first. -/
  turns       : List Turn
  /-- The bus items emitted, oldest first. -/
  trace       : List BusItem
  /-- The levels `panel_rst_n` has changed to, oldest first. -/
  rstTrace    : List Bool
  deriving DecidableEq, Repr

/-- Faults. The EPS has none: a rejection is a next state with LAST_ERR written, no host access can
fault and no action can fail (R260, R212). No meaning raises one. -/
inductive Fault
  deriving DecidableEq, Repr

/-- Refusals. -/
inductive Refusal
  /-- Raised by `exec` for an instruction that has no meaning yet; safe. No arm raises it. -/
  | notModelled (mnemonic : String)
  /-- Raised by `step` for a parameter record that R6, R40, R41 or R184 forbids: such a record is
  rejected before any run (93_implementation_defined.md U3); safe. -/
  | illegalConfiguration
  deriving DecidableEq, Repr

/-- Right after reset (R280) with nothing scheduled and nothing emitted. The configuration is V213's
(log 1, 2, 3); the busy line is inactive and the transport and the source port ready (log 6). -/
def State.reset : State where
  args := ⟨0#32, 0#32, 0#32, 0#32⟩
  acts := []
  pc := 0
  phase := .idle
  seqBusy := false
  pageReq := false
  partialLut := false
  clip := false
  gateWait := false
  busyS := false
  pageCursor := 0xFF#8
  rotation := 0#2
  lastErr := .accepted
  latched := ⟨0#4, false, 0#16, 0#16, 0#16, 0#16, 0#32, 0#32⟩
  pdone := false
  dcnt := 0#32
  txq := none
  rstOut := true
  fb := []
  params := Params.v213
  pins := ⟨true, true, true, none, 0#32⟩
  pollTicks := 0
  delayOn := false
  src := []
  srcOld := []
  powerUp := 0
  draw := 0
  turns := []
  trace := []
  rstTrace := []

end Sys2Proof.Machine
end

