-- ==== Sys2Proof/Machine/Ops.lean ====
section
/-! DEFINITION. The named operations over memory and registers: byte memories in canonical form, the
framebuffer and the host's source memory, the one exception mechanism (a rejection, R265), operand
latching (R121), the tick, the block reset (R280, R281). -/

namespace Sys2Proof.Machine

/-! ## Byte memories -/

/-- The canonical form: addresses strictly rising. No entry can equal what an unlisted address holds,
because an unlisted address holds no value (R61). -/
abbrev Memory.wf (m : Memory) : Prop := m.Pairwise (fun a b => a.1 < b.1)

/-- The byte written at `a`, if any. -/
def Memory.lookup : Memory → Nat → Option Byte
  | [], _ => none
  | (k, v) :: m, a => if k = a then some v else Memory.lookup m a

/-- Write one byte, keeping the canonical form. -/
def Memory.write : Memory → Nat → Byte → Memory
  | [], a, v => [(a, v)]
  | (k, w) :: m, a, v =>
    if a < k then (a, v) :: (k, w) :: m
    else if a = k then (a, v) :: m
    else (k, w) :: Memory.write m a v

/-- Write `v` to every address below `n` (FILL, `Preclear`). -/
def Memory.fillTo (m : Memory) (n : Nat) (v : Byte) : Memory :=
  (List.range n).map (fun a => (a, v)) ++ m.filter (fun c => decide (n ≤ c.1))

/-! ## The framebuffer (R61) -/

/-- `MemRead(FB:i, 1)`. A byte no writer has written since power-up is a free value, stable until it is
written (U1). -/
def State.fbByte (s : State) (i : Nat) : Byte :=
  (s.fb.lookup i).getD (Config.powerUpByte s.powerUp i)

/-- `MemWrite(FB:i, 1, v)`. -/
def State.writeFb (s : State) (i : Nat) (v : Byte) : State :=
  { s with fb := s.fb.write i v }

/-- `MemWrite(FB:i, 1, v)` for every `i` below `n`. -/
def State.fillFb (s : State) (n : Nat) (v : Byte) : State :=
  { s with fb := s.fb.fillTo n v }

/-! ## The host's source memory (R65, R80) -/

/-- What the host's source memory holds at `a` now. -/
def State.srcNow (s : State) (a : Word) : Byte :=
  (s.src.lookup a.toNat).getD (Config.sourceByte s.powerUp a.toNat)

/-- The values SRC byte `a` held earlier since the running DRAWBITMAP was accepted (R80). -/
def State.srcEarlier (s : State) (a : Word) : List Byte :=
  (s.srcOld.filter (fun c => c.1 == a.toNat)).map Prod.snd

/-- Whether SRC byte `a` was changed since the running DRAWBITMAP was accepted (R80, U4). -/
def State.srcRaced (s : State) (a : Word) : Bool := !(s.srcEarlier a).isEmpty

/-- `MemRead(SRC:a, 1)`. A raced byte is one of the values it has held since acceptance, chosen by a
free value (R80, U4). -/
def State.srcByte (s : State) (a : Word) : Byte :=
  (s.srcEarlier a)[Config.raceChoice s.draw % ((s.srcEarlier a).length + 1)]?.getD (s.srcNow a)

/-- The host writes one byte of SRC. While a DRAWBITMAP runs, the value it replaces stays admissible
(R80). -/
def State.writeSrc (s : State) (a : Word) (v : Byte) : State :=
  { s with
    src := s.src.write a.toNat v
    srcOld := if s.seqBusy && s.latched.lOp == 5#4 then (a.toNat, s.srcNow a) :: s.srcOld
              else s.srcOld }

/-! ## Rejection and acceptance (R120, R260 to R266) -/

/-- `raise Reject(code)`: LAST_ERR, and nothing else (R265). This is the EPS's only exception; it has no
entry and no return. -/
def State.reject (s : State) (c : ErrCode) : State := { s with lastErr := c }

/-- How a request is treated while an operation runs (R120): NOP always accepted, FILL and SETPIXEL and
PAGEDONE during a page request, the rest never. PAGEDONE is also rejected when nothing runs. -/
inductive RequestClass
  | nop | pixel | pageDone | idleOnly
  deriving DecidableEq, Repr

/-- The rejection a legal request meets, if any: BUSY or STATE (R120, R262, R263). -/
def State.rejection (s : State) (cls : RequestClass) : Option ErrCode :=
  match cls with
  | .nop => none
  | .pixel => if s.seqBusy && !s.pageReq then some .busy else none
  | .pageDone =>
    if s.seqBusy then (if s.pageReq then none else some .busy) else some .state
  | .idleOnly => if s.seqBusy then some .busy else none

/-- Acceptance of a legal request (R120): reject it, or clear LAST_ERR (R266) and do it. -/
def State.accept (s : State) (cls : RequestClass) (body : State → State) : State :=
  match s.rejection cls with
  | some c => s.reject c
  | none   => body { s with lastErr := .accepted }

/-- Operand latching (R121): every `L_*`, whatever the opcode. -/
def State.latchOperands (s : State) (op : BitVec 4) (p : Bool) : State :=
  { s with latched :=
      { lOp := op, lP := p
        lX := s.args.arg0.extractLsb' 0 16, lY := s.args.arg0.extractLsb' 16 16
        lW := s.args.arg1.extractLsb' 0 16, lH := s.args.arg1.extractLsb' 16 16
        lBase := s.args.arg2, lSize := s.args.arg3 } }

/-! ## Sequencer bookkeeping -/

/-- `pc <- next` (R23). -/
def State.advance (s : State) : State := { s with pc := s.pc + 1 }

/-- The turn being taken leaves the schedule. -/
def State.popTurn (s : State) : State := { s with turns := s.turns.tail }

/-- `Done` (R201). -/
def State.finish (s : State) : State :=
  { s with phase := .idle, seqBusy := false, gateWait := false, acts := [], pc := 0 }

/-- `rst_out <- l`, observed when the level of `panel_rst_n` changes (R46, R10). -/
def State.driveRst (s : State) (l : Bool) : State :=
  { s with rstOut := l, rstTrace := if s.rstOut == l then s.rstTrace else s.rstTrace ++ [l] }

/-- One `tick_1ms` pulse: it counts for a busy gate being waited on (R141) and for a delay that runs
(R149), and for nothing else (R150, R271). -/
def State.tick (s : State) : State :=
  { s with
    pollTicks := if s.gateWait then s.pollTicks + 1 else s.pollTicks
    dcnt := if s.delayOn && s.dcnt != 0#32 then s.dcnt - 1#32 else s.dcnt }

/-- The Panel drives `busy_in`: the sample follows (R30, R140). -/
def State.sampleBusy (s : State) (level : Bool) : State :=
  { s with busyS := level == s.params.busyActive }

/-! ## Block reset -/

/-- The block reset (R280, R281): every piece of state at its reset value but FB, which keeps its bytes,
and `busy_s`, which stays the input's sample. The item on offer is withdrawn, and what the EPS has
emitted, the host's memory and the other agents' levels stay. -/
def State.blockReset (s : State) : State :=
  { s.driveRst true with
    args := ⟨0#32, 0#32, 0#32, 0#32⟩
    acts := []
    pc := 0
    phase := .idle
    seqBusy := false
    pageReq := false
    partialLut := false
    clip := false
    gateWait := false
    pageCursor := 0xFF#8
    rotation := 0#2
    lastErr := .accepted
    latched := ⟨0#4, false, 0#16, 0#16, 0#16, 0#16, 0#32, 0#32⟩
    pdone := false
    dcnt := 0#32
    txq := none
    pollTicks := 0
    delayOn := false
    srcOld := []
    pins := { s.pins with sReq := none, hRdata := 0#32 } }

/-- The platform drives `rst_n`: low resets and holds the block, high releases it (R280). -/
def State.driveRstN (s : State) (level : Bool) : State :=
  if level then { s with pins := { s.pins with rstN := true } }
  else { s.blockReset with pins := { s.blockReset.pins with rstN := false } }

end Sys2Proof.Machine
end

