-- ==== Sys2Proof/Machine/Flags.lean ====
section
/-! DEFINITION. The status word (R36), the configuration registers (R37) and the flag writes that
requests share: CLIP (R28, R247) and PARTIAL (R27, R210). -/

namespace Sys2Proof.Machine

/-- The 4-bit encoding of PHASE (R24). -/
def Phase.bits : Phase → BitVec 4
  | .idle      => 0#4
  | .ponFull   => 1#4
  | .ponPart   => 2#4
  | .transfer  => 3#4
  | .trigger   => 4#4
  | .poff      => 5#4
  | .pageWait  => 6#4
  | .settle    => 7#4
  | .resetting => 8#4

/-- The 4-bit encoding of LAST_ERR (R33). -/
def ErrCode.bits : ErrCode → BitVec 4
  | .accepted => 0#4
  | .illegal  => 1#4
  | .busy     => 2#4
  | .state    => 3#4

/-- STATUS (R36): `[27:24]` LAST_ERR, `[23:16]` PAGE_CURSOR, `[13:12]` ROTATION, `[11:8]` PHASE,
`[5]` GATE_WAIT, `[4]` CLIP, `[3]` PANEL_BUSY, `[2]` PARTIAL, `[1]` PAGE_REQ, `[0]` SEQ_BUSY, and the
reserved fields read 0. -/
def State.status (s : State) : Word :=
  0#4 ++ s.lastErr.bits ++ s.pageCursor ++ 0#2 ++ s.rotation ++ s.phase.bits ++ 0#2
    ++ BitVec.ofBool s.gateWait ++ BitVec.ofBool s.clip ++ BitVec.ofBool s.busyS
    ++ BitVec.ofBool s.partialLut ++ BitVec.ofBool s.pageReq ++ BitVec.ofBool s.seqBusy

/-- GEOM = `{H[15:0], W[15:0]}` (R37). -/
def geomWord (p : Params) : Word := BitVec.ofNat 16 p.height ++ BitVec.ofNat 16 p.width

/-- PAGING = `{PAGE_H[15:0], 8'h00, PAGE_COUNT[7:0]}` (R37). -/
def pagingWord (p : Params) : Word :=
  BitVec.ofNat 16 p.pageH ++ 0#8 ++ BitVec.ofNat 8 p.pageCount

/-- FBSIZE = `zext_32(FB_BYTES)` (R37). -/
def fbSizeWord (p : Params) : Word := BitVec.ofNat 32 p.fbBytes

/-- Whether a page is being drawn: `PAGE_CURSOR >= 0` as a signed byte (R31). -/
def State.paging (s : State) : Bool := !s.pageCursor.msb

/-- The page PAGE_CURSOR names, where it is not -1 (R31). -/
def State.page (s : State) : Nat := s.pageCursor.toNat

/-- CLIP <- b (R28). -/
def State.setClip (s : State) (b : Bool) : State := { s with clip := b }

/-- The refresh mode of an operation: which LUT and which trigger byte it uses (R182). -/
inductive LutMode
  | full | part
  deriving DecidableEq, Repr

/-- The mode of a P bit (R182). -/
def LutMode.ofP (p : Bool) : LutMode := if p then .part else .full

/-- PARTIAL's value for an operation of a mode (R210). -/
def LutMode.isPart : LutMode → Bool
  | .full => false
  | .part => true

end Sys2Proof.Machine
end

