-- ==== Sys2Proof/Machine/Transform.lean ====
section
/-! DEFINITION. The bit-reversal-and-invert transform (45_transform.md) and the byte-order helpers of
the wire (R12, R69). -/

namespace Sys2Proof.Machine

/-- `rev8(b)`: bit `i` of the result is bit `7 - i` of `b` (R230). -/
def rev8 (b : Byte) : Byte :=
  b.extractLsb' 0 1 ++ b.extractLsb' 1 1 ++ b.extractLsb' 2 1 ++ b.extractLsb' 3 1
    ++ b.extractLsb' 4 1 ++ b.extractLsb' 5 1 ++ b.extractLsb' 6 1 ++ b.extractLsb' 7 1

/-- The wire transform `T(b) = ~rev8(b)` (R231). -/
def wireT (b : Byte) : Byte := ~~~ rev8 b

/-- `lo8(v) = v mod 256` (R12). -/
def lo8 (v : Nat) : Byte := BitVec.ofNat 8 v

/-- `hi8(v) = (v div 256) mod 256` (R12). -/
def hi8 (v : Nat) : Byte := BitVec.ofNat 8 (v / 256)

end Sys2Proof.Machine
end

