-- ==== Sys2Proof/Machine/Addressing.lean ====
section
/-! DEFINITION. The RAM addressing unit (42_ram_addressing.md): windows, their descriptors, the clamping
of UPDATEWINDOW, the macros SetRamArea and SetRamPointer, and the informative placement of a stream in
the panel's RAM (R79). -/

namespace Sys2Proof.Machine

/-- A window of the physical framebuffer: pixel columns `x0 .. x1`, rows `y0 .. y1` (R160). -/
structure Window where
  x0 : Nat
  x1 : Nat
  y0 : Nat
  y1 : Nat
  deriving DecidableEq, Repr

/-- `x_start`, the first byte column (R160). -/
def Window.xs (w : Window) : Nat := w.x0 / 8

/-- `x_end`, the last byte column (R160). -/
def Window.xe (w : Window) : Nat := w.x1 / 8

/-- `nb`, the number of byte columns (R160). -/
def Window.nb (w : Window) : Nat := w.xe - w.xs + 1

/-- `nr`, the number of rows (R160). -/
def Window.nr (w : Window) : Nat := w.y1 - w.y0 + 1

/-- `N = nb * nr`, the number of streamed bytes (R160, R209). -/
def Window.count (w : Window) : Nat := w.nb * w.nr

/-- `YS`, the controller Y of the first row (R160, R161). -/
def Window.ys (p : Params) (w : Window) : Nat := p.height - 1 - w.y0

/-- `YE`, the controller Y of the last row (R160, R161). -/
def Window.ye (p : Params) (w : Window) : Nat := p.height - 1 - w.y1

/-- A window lies on the panel (R160). -/
abbrev Window.onPanel (p : Params) (w : Window) : Prop :=
  w.x0 ≤ w.x1 ∧ w.x1 < p.width ∧ w.y0 ≤ w.y1 ∧ w.y1 < p.height

/-- The full window (R162). -/
def fullWindow (p : Params) : Window := ⟨0, p.width - 1, 0, p.height - 1⟩

/-- The window of page `k` (R171). -/
def pageWindow (p : Params) (k : Nat) : Window :=
  ⟨0, p.width - 1, k * p.pageH, k * p.pageH + p.pageH - 1⟩

/-- `window_dropped(x, y, w, h)` (R163). -/
def windowDropped (p : Params) (x y w h : Nat) : Bool :=
  decide (p.width ≤ x) || decide (p.height ≤ y) || w == 0 || h == 0

/-- The window of an UPDATEWINDOW that is not dropped, clamped to the panel (R163). -/
def clampWindow (p : Params) (x y w h : Nat) : Window :=
  ⟨x, min p.width (x + w) - 1, y, min p.height (y + h) - 1⟩

/-- `Data(d)`: one data item that is its own transaction (R143). -/
def dataAct (b : Byte) : Action := .dat b true true

/-- SetRamArea for a window's descriptor (R168). -/
def setRamArea (p : Params) (w : Window) : List Action :=
  [.cmd 0x44#8, dataAct (lo8 w.xs), dataAct (lo8 w.xe),
   .cmd 0x45#8, dataAct (lo8 (w.ys p)), dataAct (hi8 (w.ys p)),
   dataAct (lo8 (w.ye p)), dataAct (hi8 (w.ye p))]

/-- SetRamPointer for a window's descriptor: its start corner (R167, R169). -/
def setRamPointer (p : Params) (w : Window) : List Action :=
  [.cmd 0x4E#8, dataAct (lo8 w.xs),
   .cmd 0x4F#8, dataAct (lo8 (w.ys p)), dataAct (hi8 (w.ys p))]

/-- Where the panel puts the `k`-th data item of a WRITE_RAM, as (X, Y). INFORMATIVE: the panel is
outside the EPS and no rule reads this (R79). -/
def panelPlace (p : Params) (w : Window) (k : Nat) : Nat × Nat :=
  (w.xs + k % w.nb, w.ys p - k / w.nb)

end Sys2Proof.Machine
end

