-- ==== Sys2Proof/Machine/Sequence.lean ====
section
/-! DEFINITION. `expand` (R23): the action sequence of each operation, from the phase macros of
44_sequencer.md, the bursts of R144, the LUT loader of 43_lut_loader.md and INIT of R123. -/

namespace Sys2Proof.Machine

/-- The data actions of a burst: `last` is set on the final one (R144). -/
def burstData : List Byte → List Action
  | []      => []
  | [b]     => [.dat b false true]
  | b :: bs => .dat b false false :: burstData bs

/-- `Burst(b, ds)` (R144). -/
def burst (of : BurstOf) (b : Byte) (ds : List Byte) : List Action :=
  .burstCmd of b ds.isEmpty :: burstData ds

/-- INIT ROM entry `k` as a burst (R192). -/
def initBurst (p : Params) (k : InitStep) : List Action :=
  burst (.initEntry k) (p.initEntry k).cmd (p.initEntry k).data

/-- The table a mode selects (R39, R182). -/
def lutTable (p : Params) : LutMode → List Byte
  | .full => p.lutFull
  | .part => p.lutPart

/-- LoadLUT: byte 0 as the command, the others as its data, in one burst (R180). -/
def loadLut (p : Params) (m : LutMode) : List Action :=
  burst .lut ((lutTable p m).headD 0#8) (lutTable p m).tail

/-- `Cmd(0x22) ; Data(ctrl) ; Cmd(0x20)`: the power-on and power-off pairs and the start of a trigger
(R193, R194, R195). -/
def controlPair (ctrl : Byte) : List Action := [.cmd 0x22#8, dataAct ctrl, .cmd 0x20#8]

/-- PowerOnPhase (R191). -/
def powerOnPhase (p : Params) (m : LutMode) (w : Window) : List Action :=
  [.setPhase (match m with | .full => .ponFull | .part => .ponPart)]
    ++ InitStep.all.flatMap (initBurst p)
    ++ setRamArea p w ++ setRamPointer p w ++ loadLut p m ++ controlPair p.pwrOnCtrl

/-- The `Pix` actions of a window, row by row and in a row byte column by byte column (R196). -/
def pixStream (w : Window) (src : Source) : List Action :=
  (List.range' w.y0 w.nr).flatMap (fun r => (List.range' w.xs w.nb).map (fun c => .pix src r c))

/-- Transfer (R196). -/
def transfer (w : Window) (src : Source) : List Action :=
  [.setPhase .transfer, .cmd 0x24#8] ++ pixStream w src

/-- The trigger's control byte (R198). -/
def updCtrl (p : Params) : LutMode → Byte
  | .full => p.updCtrlFull
  | .part => p.updCtrlPart

/-- Trigger (R198). -/
def trigger (p : Params) (m : LutMode) : List Action :=
  [.setPhase .trigger] ++ controlPair (updCtrl p m) ++ [.cmd 0xFF#8]

/-- PowerOffPhase, with the closing wait and `Done` (R200). -/
def powerOffPhase (p : Params) : List Action :=
  [.setPhase .poff] ++ controlPair p.pwrOffCtrl ++ [.waitBusy, .done]

/-- WindowPass: the double transfer (R205). -/
def windowPass (p : Params) (w : Window) (src : Source) : List Action :=
  transfer w src ++ trigger p .part
    ++ [.setPhase .settle, .delay p.settleMs, .setPhase .transfer]
    ++ setRamArea p w ++ setRamPointer p w ++ transfer w src
    ++ (if p.winPass2Trigger then trigger p .part else [])

/-- One full-window pass: UPDATE, DRAWBITMAP and ERASE (R202, R203, R208). -/
def fullPassSeq (p : Params) (m : LutMode) (src : Source) : List Action :=
  powerOnPhase p m (fullWindow p) ++ transfer (fullWindow p) src ++ trigger p m ++ powerOffPhase p

/-- UPDATEWINDOW's sequence (R204). -/
def windowSeq (p : Params) (w : Window) : List Action :=
  powerOnPhase p .part w ++ windowPass p w .fb ++ powerOffPhase p

/-- The part of DRAWPAGED's sequence for page `k` (R206). -/
def pagePass (p : Params) (k : Nat) : List Action :=
  [.setPhase .pageWait, .setCursor (BitVec.ofNat 8 k)]
    ++ (match p.pagePreclear with | .white => [.preclear] | .retain => [])
    ++ [.raisePageReq, .awaitPage, .setPhase .transfer]
    ++ setRamArea p (pageWindow p k) ++ setRamPointer p (pageWindow p k)
    ++ windowPass p (pageWindow p k) .page

/-- DRAWPAGED's sequence (R206). -/
def pagedSeq (p : Params) : List Action :=
  powerOnPhase p .part (fullWindow p) ++ (List.range p.pageCount).flatMap (pagePass p)
    ++ [.setCursor 0xFF#8] ++ powerOffPhase p

/-- INIT's sequence (R123). -/
def initSeq (p : Params) : List Action :=
  [.setPhase .resetting]
    ++ (if 0 < p.resetPulseMs
        then [.setRst false, .delay p.resetPulseMs, .setRst true, .delay p.resetRecoverMs]
        else [.setRst true])
    ++ [.setCursor 0xFF#8, .done]

/-- The window UPDATEWINDOW works on, from its latched operands (R163, R204). -/
def Latched.window (p : Params) (l : Latched) : Window :=
  clampWindow p l.lX.toNat l.lY.toNat l.lW.toNat l.lH.toNat

/-- `expand(L_OP, L_*, params)` (R23): the sequence of an accepted operation. -/
def expand (p : Params) (l : Latched) : List Action :=
  if l.lOp = 1#4 then initSeq p
  else if l.lOp = 4#4 then fullPassSeq p .full .fb
  else if l.lOp = 5#4 then fullPassSeq p (.ofP l.lP) .bmp
  else if l.lOp = 6#4 then windowSeq p (l.window p)
  else if l.lOp = 7#4 then pagedSeq p
  else if l.lOp = 8#4 then fullPassSeq p (.ofP l.lP) .zero
  else []

/-- Start an accepted operation: latch its operands, write PARTIAL, set SEQ_BUSY and build the action
sequence (R120, R121, R210). -/
def State.startOperation (s : State) (op : BitVec 4) (p : Bool) (m : LutMode) : State :=
  let t := s.latchOperands op p
  { t with
    partialLut := m.isPart
    seqBusy := true
    acts := expand t.params t.latched
    pc := 0
    srcOld := [] }

end Sys2Proof.Machine
end

