-- ==== Sys2Proof/Machine/Bus.lean ====
section
/-! DEFINITION. The primitives a sequencer step is built from: the busy gate (R141), the transport
handshake (R145), the source-port handshake (R65), delays (R149), the byte a `Pix` forms (R197), and
the effect of each action (R23). A step either completes the action at `pc` or holds. -/

namespace Sys2Proof.Machine

/-! ## The transport handshake -/

/-- The transport takes the item: it enters the trace, and the action is complete (R145). -/
def State.consume (s : State) (it : BusItem) : State :=
  { s.advance with txq := none, trace := s.trace ++ [it] }

/-- `emit`: offer an item; it is consumed in this step where the transport is ready, else it stays on
offer (R145). -/
def State.emit (s : State) (it : BusItem) : State :=
  if s.pins.txReady then s.consume it else { s with txq := some it }

/-! ## The busy gate -/

/-- `gate()` followed by `k` (R141): the first check at the step the action starts, then a poll every
`POLL_MS` ticks, with GATE_WAIT set while it holds. -/
def State.gate (s : State) (k : State → State) : State :=
  if s.gateWait then
    if s.pollTicks < s.params.pollMs then s
    else if s.busyS then { s with pollTicks := 0 }
    else k { s with gateWait := false, pollTicks := 0 }
  else if s.busyS then { s with gateWait := true, pollTicks := 0 }
  else k s

/-- Send one item by the action at `pc`: an item already on offer is committed and waits for the
transport only (R142); otherwise the item is formed, behind the gate where it is a command (R148). -/
def State.send (s : State) (gated : Bool) (it : BusItem) : State :=
  match s.txq with
  | some offered => if s.pins.txReady then s.consume offered else s
  | none         => if gated then s.gate (·.emit it) else s.emit it

/-! ## Pixel bytes -/

/-- `srcbyte(src, r, c)` (R197). -/
def State.sourceByte (s : State) (src : Source) (r c : Nat) : Byte :=
  match src with
  | .fb =>
    let i := r * s.params.wb + c
    if i < s.params.fbBytes then s.fbByte i else s.params.padFb
  | .page => s.fbByte ((r - s.page * s.params.pageH) * s.params.wb + c)
  | .bmp =>
    let k := r * s.params.wb + c
    if k < s.latched.lSize.toNat then s.srcByte (s.latched.lBase + BitVec.ofNat 32 k)
    else s.params.padBmp
  | .zero => 0x00#8

/-- The wire byte a `Pix` forms: the source byte through T (R196, R232). -/
def State.pixelByte (s : State) (src : Source) (r c : Nat) : Byte := wireT (s.sourceByte src r c)

/-- The SRC address the action at `pc` must read through the source port before its item is formed, if
any (R65, R197). -/
def State.sourceRead (s : State) : Option Word :=
  match s.acts[s.pc]? with
  | some (.pix .bmp r c) =>
    if s.txq.isNone ∧ r * s.params.wb + c < s.latched.lSize.toNat
    then some (s.latched.lBase + BitVec.ofNat 32 (r * s.params.wb + c)) else none
  | _ => none

/-- The source-port handshake around `k` (R65): where the action reads SRC, raise `s_req` and hold
until `s_ack`; the acknowledged read is this step's. A raced read uses up one draw (R80). -/
def State.viaSource (s : State) (k : State → State) : State :=
  match s.sourceRead with
  | none   => k s
  | some a =>
    if s.pins.sAck then
      let t := k s
      { t with pins := { t.pins with sReq := none }
               draw := if s.srcRaced a then s.draw + 1 else s.draw }
    else { s with pins := { s.pins with sReq := some a } }

/-! ## Actions -/

/-- `Delay(n)` (R149): DCNT is loaded at the step the action starts, and the action completes when it
is 0. -/
def State.delayStep (s : State) (n : Nat) : State :=
  if s.delayOn then
    if s.dcnt = 0#32 then { s.advance with delayOn := false } else s
  else if BitVec.ofNat 32 n = 0#32 then { s.advance with dcnt := 0#32 }
  else { s with dcnt := BitVec.ofNat 32 n, delayOn := true }

/-- `AwaitPage` (R207). -/
def State.awaitPageStep (s : State) : State :=
  if s.pdone then { s.advance with pdone := false } else s

/-- One sequencer step on an action: complete it or hold (R23). -/
def State.actionStep (s : State) : Action → State
  | .cmd b             => s.send true ⟨false, b, true, true⟩
  | .burstCmd _ b last => s.send true ⟨false, b, true, last⟩
  | .dat b first last  => s.send false ⟨true, b, first, last⟩
  | .pix src r c       => s.viaSource (fun t => t.send false ⟨true, t.pixelByte src r c, true, true⟩)
  | .waitBusy          => s.gate State.advance
  | .delay n           => s.delayStep n
  | .setPhase p        => { s.advance with phase := p }
  | .setCursor v       => { s.advance with pageCursor := v }
  | .preclear          => (s.fillFb s.params.pageBytes 0x00#8).advance
  | .raisePageReq      => { s.advance with pageReq := true }
  | .awaitPage         => s.awaitPageStep
  | .setRst l          => (s.driveRst l).advance
  | .done              => s.finish

/-- The sequencer's turn (R23): the action at `pc`, if an operation runs. -/
def State.sequencerStep (s : State) : State :=
  if s.seqBusy && s.pins.rstN then
    match s.acts[s.pc]? with
    | some a => s.actionStep a
    | none   => s
  else s

end Sys2Proof.Machine
end

