-- ==== Sys2Proof/Machine/Wire.lean ====
section
/-! DEFINITION. The wire commands (30_encoding.md R99 to R102). A wire command is sent item by item, one
sequencer step each (R145): its meaning is one step of it, on the item the cursor stands at, so host
accesses, ticks and a reset can land between two items as they can between any two actions. -/

namespace Sys2Proof.Machine

/-- A data-item action: what follows a command item up to the next command (R101). -/
def Action.isData : Action → Bool
  | .dat _ _ _ => true
  | .pix _ _ _ => true
  | _          => false

/-- A `Pix` action. -/
def Action.isPix : Action → Bool
  | .pix _ _ _ => true
  | _          => false

/-- Which item of its wire command the cursor stands at: 0 is the command item, and `k` its `k`-th data
item, `k` data actions after it (R101). -/
def State.itemIndex (s : State) : Nat :=
  ((s.acts.take (s.pc + 1)).reverse.takeWhile Action.isData).length

/-- The items of a wire command (R99, R146): of a burst one transaction, otherwise each its own. -/
def wireItem (frame : Frame) (code : Byte) (data : List Byte) : Nat → Option BusItem
  | 0     =>
    match frame with
    | .single => some ⟨false, code, true, true⟩
    | _       => some ⟨false, code, true, data.isEmpty⟩
  | j + 1 =>
    match frame, data[j]? with
    | .single, some b => some ⟨true, b, true, true⟩
    | _,       some b => some ⟨true, b, false, j + 1 == data.length⟩
    | _,       none   => none

/-- One step of a wire command: send the item the cursor stands at, behind the gate where it is the
command item (R142, R143, R148). A command with no such item is over, and nothing is sent. -/
def State.sendWire (s : State) (frame : Frame) (code : Byte) (data : List Byte) : State :=
  match wireItem frame code data s.itemIndex with
  | some it => s.send (s.itemIndex == 0) it
  | none    => s

/-- 0x44 SET_RAM_X_RANGE (R164). -/
def execSetRamXRange (xStart xEnd : Byte) (s : State) : Host.Outcome State Fault Refusal :=
  .next (s.sendWire .single 0x44#8 [xStart, xEnd])

/-- 0x45 SET_RAM_Y_RANGE, low bytes first (R165, R69). -/
def execSetRamYRange (yStart yStartHigh yEnd yEndHigh : Byte) (s : State) :
    Host.Outcome State Fault Refusal :=
  .next (s.sendWire .single 0x45#8 [yStart, yStartHigh, yEnd, yEndHigh])

/-- 0x4E SET_RAM_X_PTR (R166). -/
def execSetRamXPtr (addrX : Byte) (s : State) : Host.Outcome State Fault Refusal :=
  .next (s.sendWire .single 0x4E#8 [addrX])

/-- 0x4F SET_RAM_Y_PTR (R167). -/
def execSetRamYPtr (addrY addrYHi : Byte) (s : State) : Host.Outcome State Fault Refusal :=
  .next (s.sendWire .single 0x4F#8 [addrY, addrYHi])

/-- 0x32 WRITE_LUT: one burst of 31 items (R180, R181). -/
def execWriteLut (lut : List Byte) (s : State) : Host.Outcome State Fault Refusal :=
  .next (s.sendWire .lutBurst 0x32#8 lut)

/-- 0x24 WRITE_RAM: a pixel item whose byte comes from SRC goes through the source-port handshake
(R196, R65). -/
def execWriteRam (pixels : List Byte) (s : State) : Host.Outcome State Fault Refusal :=
  .next (s.viaSource (fun t => t.sendWire .single 0x24#8 pixels))

/-- 0x22 UPDATE_CTRL (R194). -/
def execUpdateCtrl (ctrl : Byte) (s : State) : Host.Outcome State Fault Refusal :=
  .next (s.sendWire .single 0x22#8 [ctrl])

/-- 0x20 ACTIVATE (R195). -/
def execActivate (s : State) : Host.Outcome State Fault Refusal :=
  .next (s.sendWire .single 0x20#8 [])

/-- 0xFF END (R199). -/
def execEndUpdate (s : State) : Host.Outcome State Fault Refusal :=
  .next (s.sendWire .single 0xFF#8 [])

end Sys2Proof.Machine
end

