-- ==== Sys2Proof/Machine/InitTable.lean ====
section
/-! DEFINITION. The six INIT ROM bursts of the power-on phase (R40, R192), each one gated transaction
(R144). -/

namespace Sys2Proof.Machine

/-- INIT_TABLE[0] PANEL_CONFIG (R192). -/
def execInitPanelConfig (cmd : Byte) (data : List Byte) (s : State) :
    Host.Outcome State Fault Refusal :=
  .next (s.sendWire (.initBurst .panelConfig) cmd data)

/-- INIT_TABLE[1] SOFT_START (R192). -/
def execInitSoftStart (cmd : Byte) (data : List Byte) (s : State) :
    Host.Outcome State Fault Refusal :=
  .next (s.sendWire (.initBurst .softStart) cmd data)

/-- INIT_TABLE[2] VCOM (R192). -/
def execInitVcom (cmd : Byte) (data : List Byte) (s : State) :
    Host.Outcome State Fault Refusal :=
  .next (s.sendWire (.initBurst .vcom) cmd data)

/-- INIT_TABLE[3] DUMMY_LINE (R192). -/
def execInitDummyLine (cmd : Byte) (data : List Byte) (s : State) :
    Host.Outcome State Fault Refusal :=
  .next (s.sendWire (.initBurst .dummyLine) cmd data)

/-- INIT_TABLE[4] GATE_TIME (R192). -/
def execInitGateTime (cmd : Byte) (data : List Byte) (s : State) :
    Host.Outcome State Fault Refusal :=
  .next (s.sendWire (.initBurst .gateTime) cmd data)

/-- INIT_TABLE[5] ENTRY_MODE (R192). -/
def execInitEntryMode (cmd : Byte) (data : List Byte) (s : State) :
    Host.Outcome State Fault Refusal :=
  .next (s.sendWire (.initBurst .entryMode) cmd data)

end Sys2Proof.Machine
end

