-- ==== Sys2Proof/Machine/Operands.lean ====
section
/-! DEFINITION. Operand assembly (R94 to R98): the fields of ARG0 to ARG3 as each request reads them,
and SETPIXEL's coordinates up to the framebuffer bit they name (R62, R240 to R243). -/

namespace Sys2Proof.Machine

/-! ## Fields of the ARG registers -/

/-- `X = ARG0[15:0]` (R94). -/
def State.argX (s : State) : Half := s.args.arg0.extractLsb' 0 16

/-- `Y = ARG0[31:16]` (R94). -/
def State.argY (s : State) : Half := s.args.arg0.extractLsb' 16 16

/-- `WD = ARG1[15:0]` (R95). -/
def State.argWd (s : State) : Half := s.args.arg1.extractLsb' 0 16

/-- `HT = ARG1[31:16]` (R95). -/
def State.argHt (s : State) : Half := s.args.arg1.extractLsb' 16 16

/-- `COLOR = ARG1[15:0]` (R95). -/
def State.argColor (s : State) : Half := s.args.arg1.extractLsb' 0 16

/-- `BASE = ARG2` (R96). -/
def State.argBase (s : State) : Word := s.args.arg2

/-- `SIZE = ARG3` (R96). -/
def State.argSize (s : State) : Word := s.args.arg3

/-- `ROT = ARG0[1:0]` (R97). -/
def State.argRot (s : State) : BitVec 2 := s.args.arg0.extractLsb' 0 2

/-- A colour is black exactly when it is 0 (R244). -/
def isBlack (c : Half) : Bool := c == 0#16

/-! ## From a logical pixel to a framebuffer bit -/

/-- Logical width `LW` (R240). -/
def logicalWidth (p : Params) (rot : BitVec 2) : Nat :=
  if rot = 0#2 ∨ rot = 2#2 then p.width else p.height

/-- Logical height `LH` (R240). -/
def logicalHeight (p : Params) (rot : BitVec 2) : Nat :=
  if rot = 0#2 ∨ rot = 2#2 then p.height else p.width

/-- A signed pair is in bounds when `0 <= x < LW` and `0 <= y < LH` (R240). -/
def inBounds (p : Params) (rot : BitVec 2) (x y : Int) : Bool :=
  decide (0 ≤ x) && decide (x < logicalWidth p rot)
    && decide (0 ≤ y) && decide (y < logicalHeight p rot)

/-- The physical pixel of an in-bounds logical pair (R241). -/
def remap (p : Params) (rot : BitVec 2) (x y : Nat) : Nat × Nat :=
  if rot = 0#2 then (x, y)
  else if rot = 1#2 then (p.width - 1 - y, x)
  else if rot = 2#2 then (p.width - 1 - x, p.height - 1 - y)
  else (y, p.height - 1 - x)

/-- `byte(px, py) = px div 8 + py * WB` (R62). -/
def fbIndex (p : Params) (px py : Nat) : Nat := px / 8 + py * p.wb

/-- `bit(px, py) = 7 - (px mod 8)` (R62). -/
def fbBit (px : Nat) : Nat := 7 - px % 8

/-- Page clipping (R243): the place in the store of panel byte `i`, or none where the current page does
not hold it. -/
def State.rebase (s : State) (i : Nat) : Option Nat :=
  if s.paging then
    if s.page * s.params.pageBytes ≤ i ∧ i < (s.page + 1) * s.params.pageBytes
    then some (i - s.page * s.params.pageBytes) else none
  else some i

/-- The store byte and the bit that a logical pixel names, or none where SETPIXEL drops the write: out
of bounds (R240), outside the current page (R243) or beyond the store (R242). -/
def State.pixelTarget (s : State) (x y : Int) : Option (Nat × Nat) :=
  if inBounds s.params s.rotation x y then
    let (px, py) := remap s.params s.rotation x.toNat y.toNat
    match s.rebase (fbIndex s.params px py) with
    | some i => if i < s.params.fbBytes then some (i, fbBit px) else none
    | none   => none
  else none

/-- A framebuffer byte with bit `k` set for black or cleared for white (R244, R63). -/
def paintBit (b : Byte) (k : Nat) (black : Bool) : Byte :=
  if black then b ||| (1#8 <<< k) else b &&& ~~~ (1#8 <<< k)

end Sys2Proof.Machine
end

