-- ==== Sys2Proof/Machine/Panel.lean ====
section
/-! DEFINITION. The panel operations: UPDATE, DRAWBITMAP, UPDATEWINDOW, DRAWPAGED and ERASE
(44_sequencer.md). Each is accepted only while nothing runs, and starts the sequence `expand` builds. -/

namespace Sys2Proof.Machine

/-- UPDATE: full refresh of the stored buffer (R202). -/
def execUpdate (s : State) : Host.Outcome State Fault Refusal :=
  .next (s.accept .idleOnly (fun t => t.startOperation 4#4 false .full))

/-- DRAWBITMAP: stream the host's bitmap, in the mode of P (R203). -/
def execDrawbitmap (p : Bool) (s : State) : Host.Outcome State Fault Refusal :=
  .next (s.accept .idleOnly (fun t => t.startOperation 5#4 p (.ofP p)))

/-- UPDATEWINDOW: a window that misses the panel is accepted and dropped with CLIP <- 1; any other starts
the windowed partial update with CLIP <- 0 (R163, R204). Operands are latched either way (R120). -/
def execUpdatewindow (s : State) : Host.Outcome State Fault Refusal :=
  .next (s.accept .idleOnly (fun t =>
    if windowDropped t.params t.argX.toNat t.argY.toNat t.argWd.toNat t.argHt.toNat
    then (t.latchOperands 6#4 false).setClip true
    else (t.startOperation 6#4 false .part).setClip false))

/-- DRAWPAGED: the paged update (R206). -/
def execDrawpaged (s : State) : Host.Outcome State Fault Refusal :=
  .next (s.accept .idleOnly (fun t => t.startOperation 7#4 false .part))

/-- ERASE: stream white, in the mode of P (R208). -/
def execErase (p : Bool) (s : State) : Host.Outcome State Fault Refusal :=
  .next (s.accept .idleOnly (fun t => t.startOperation 8#4 p (.ofP p)))

end Sys2Proof.Machine
end

