-- ==== Sys2Proof/Machine/Pixel.lean ====
section
/-! DEFINITION. The pixel access layer: FILL and SETPIXEL (46_pixel_access.md). Both complete inside the
CMD write that carries them. -/

namespace Sys2Proof.Machine

/-- The byte FILL writes (R244, R245). -/
def fillByte (color : Half) : Byte := if isBlack color then 0xFF#8 else 0x00#8

/-- SETPIXEL's effect: one bit of one framebuffer byte and CLIP <- 0, or a dropped write and CLIP <- 1
(R242, R247). -/
def State.setPixel (s : State) (x y : Int) (color : Half) : State :=
  match s.pixelTarget x y with
  | some (i, k) => (s.writeFb i (paintBit (s.fbByte i) k (isBlack color))).setClip false
  | none        => s.setClip true

/-- FILL: every framebuffer byte, whatever the rotation or the page (R245). -/
def execFill (s : State) : Host.Outcome State Fault Refusal :=
  .next (s.accept .pixel (fun t => t.fillFb t.params.fbBytes (fillByte t.argColor)))

/-- SETPIXEL (R242); its coordinates are signed (R94). -/
def execSetpixel (s : State) : Host.Outcome State Fault Refusal :=
  .next (s.accept .pixel (fun t => t.setPixel t.argX.toInt t.argY.toInt t.argColor))

end Sys2Proof.Machine
end

