-- ==== Sys2Proof/Machine/Requests.lean ====
section
/-! DEFINITION. The requests that touch no pixel and send nothing by themselves: NOP, INIT, SETROTATION
and PAGEDONE (40_requests.md). -/

namespace Sys2Proof.Machine

/-- NOP: LAST_ERR <- 0, in every phase (R122). -/
def execNop (s : State) : Host.Outcome State Fault Refusal :=
  .next (s.accept .nop id)

/-- INIT: PARTIAL <- 0 and the reset-line sequence (R123). -/
def execInit (s : State) : Host.Outcome State Fault Refusal :=
  .next (s.accept .idleOnly (fun t => t.startOperation 1#4 false .full))

/-- SETROTATION: ROTATION <- ARG0[1:0] (R124). -/
def execSetrotation (s : State) : Host.Outcome State Fault Refusal :=
  .next (s.accept .idleOnly (fun t => { t with rotation := t.argRot }))

/-- PAGEDONE: PDONE <- 1, PAGE_REQ <- 0 (R125). -/
def execPagedone (s : State) : Host.Outcome State Fault Refusal :=
  .next (s.accept .pageDone (fun t => { t with pdone := true, pageReq := false }))

end Sys2Proof.Machine
end

