-- ==== Sys2Proof/Machine/Dispatch.lean ====
section
/-! DEFINITION. The meaning of every instruction, one arm each. -/

namespace Sys2Proof.Machine

def exec (i : Instr) (s : State) : Host.Outcome State Fault Refusal :=
  match i with
  -- Host requests (R92)
  | .nop => Sys2Proof.Machine.execNop s
  | .init => Sys2Proof.Machine.execInit s
  | .fill => Sys2Proof.Machine.execFill s
  | .setpixel => Sys2Proof.Machine.execSetpixel s
  | .update => Sys2Proof.Machine.execUpdate s
  | .drawbitmap p => Sys2Proof.Machine.execDrawbitmap p s
  | .updatewindow => Sys2Proof.Machine.execUpdatewindow s
  | .drawpaged => Sys2Proof.Machine.execDrawpaged s
  | .erase p => Sys2Proof.Machine.execErase p s
  | .setrotation => Sys2Proof.Machine.execSetrotation s
  | .pagedone => Sys2Proof.Machine.execPagedone s
  -- Wire commands (R100)
  | .setRamXRange a b => Sys2Proof.Machine.execSetRamXRange a b s
  | .setRamYRange a b c d => Sys2Proof.Machine.execSetRamYRange a b c d s
  | .setRamXPtr a => Sys2Proof.Machine.execSetRamXPtr a s
  | .setRamYPtr a b => Sys2Proof.Machine.execSetRamYPtr a b s
  | .writeLut lut => Sys2Proof.Machine.execWriteLut lut s
  | .writeRam pixels => Sys2Proof.Machine.execWriteRam pixels s
  | .updateCtrl ctrl => Sys2Proof.Machine.execUpdateCtrl ctrl s
  | .activate => Sys2Proof.Machine.execActivate s
  | .endUpdate => Sys2Proof.Machine.execEndUpdate s
  -- INIT ROM entries (R192)
  | .initPanelConfig cmd data => Sys2Proof.Machine.execInitPanelConfig cmd data s
  | .initSoftStart cmd data => Sys2Proof.Machine.execInitSoftStart cmd data s
  | .initVcom cmd data => Sys2Proof.Machine.execInitVcom cmd data s
  | .initDummyLine cmd data => Sys2Proof.Machine.execInitDummyLine cmd data s
  | .initGateTime cmd data => Sys2Proof.Machine.execInitGateTime cmd data s
  | .initEntryMode cmd data => Sys2Proof.Machine.execInitEntryMode cmd data s

end Sys2Proof.Machine
end

