-- ==== Sys2Proof/Machine/HostPort.lean ====
section
/-! DEFINITION. The host register map (R34) and what a host access does that is not an accepted or
rejected legal request: register reads and writes, the framebuffer aperture (R67), an ILLEGAL CMD word
(R261), and accesses while `rst_n` is low (R280). -/

namespace Sys2Proof.Machine

/-- The aligned offset an access acts on: `h_addr[1:0]` is ignored (R66). -/
def HostAccess.offset (a : HostAccess) : Nat := a.addr.toNat / 4 * 4

/-- `fbr(i)`: framebuffer byte `i` as the aperture shows it (R67). -/
def State.apertureByte (s : State) (i : Nat) : Byte :=
  if i < s.params.fbBytes then s.fbByte i else 0x00#8

/-- The aperture word that holds framebuffer bytes `i .. i + 3`, little-endian (R67). -/
def State.apertureWord (s : State) (i : Nat) : Word :=
  s.apertureByte (i + 3) ++ s.apertureByte (i + 2) ++ s.apertureByte (i + 1) ++ s.apertureByte i

/-- What a read of the aligned offset returns (R34 to R38, R67). -/
def State.hostRead (s : State) (off : Nat) : Word :=
  if off = 0x00000 then 0#32
  else if off = 0x00004 then s.status
  else if off = 0x00008 then s.args.arg0
  else if off = 0x0000C then s.args.arg1
  else if off = 0x00010 then s.args.arg2
  else if off = 0x00014 then s.args.arg3
  else if off = 0x00018 then geomWord s.params
  else if off = 0x0001C then pagingWord s.params
  else if off = 0x00020 then fbSizeWord s.params
  else if 0x10000 ≤ off then s.apertureWord (off - 0x10000)
  else 0#32

/-- A host write of `v` to an aligned offset other than CMD: the ARG registers store it, every other
offset ignores it (R21, R34, R38, R67). -/
def State.hostWriteReg (s : State) (off : Nat) (v : Word) : State :=
  if off = 0x00008 then { s with args := { s.args with arg0 := v } }
  else if off = 0x0000C then { s with args := { s.args with arg1 := v } }
  else if off = 0x00010 then { s with args := { s.args with arg2 := v } }
  else if off = 0x00014 then { s with args := { s.args with arg3 := v } }
  else s

/-- The request a host access presents, if it is a write of a legal word to CMD (R35, R90, R93) with the
block out of reset (R280). -/
def State.presented (s : State) (a : HostAccess) : Option Instr :=
  if a.write && s.pins.rstN && a.offset == 0 then (decode (.cmdWord a.wdata)).toOption else none

/-- What a host access does where it presents no legal request. An ILLEGAL word is rejected (R261); while
`rst_n` is low writes are ignored and reads return 0 (R280). -/
def State.hostAccess (s : State) (a : HostAccess) : State :=
  if a.write then
    if s.pins.rstN then
      if a.offset = 0 then s.reject .illegal else s.hostWriteReg a.offset a.wdata
    else s
  else
    { s with pins :=
        { s.pins with hRdata := if s.pins.rstN then s.hostRead a.offset else 0#32 } }

end Sys2Proof.Machine
end

