-- ==== Sys2Proof/Machine/Fetch.lean ====
section
/-! DEFINITION. What the next step runs. An instruction is fetched from one of two places: the CMD word
of the host access whose turn it is (R35), or, on the sequencer's turn, the wire command that the cursor
stands in (R23, R101), whose data bytes are those its data actions would send now. Every turn that runs
no instruction has its effect here too. -/

namespace Sys2Proof.Machine

/-- The turn the next step takes; with nothing scheduled it is the sequencer's (R9). -/
def State.turn (s : State) : Turn := s.turns.headD .sequencer

/-- The byte and framing a data action sends now (R143, R196). -/
def State.dataOf (s : State) : Action → Byte × Bool × Bool
  | .dat b first last => (b, first, last)
  | .pix src r c      => (s.pixelByte src r c, true, true)
  | _                 => (0#8, false, false)

/-- The data actions of the wire command that begins at `start` (R101). -/
def dataActions (acts : List Action) (start : Nat) : List Action :=
  (acts.drop (start + 1)).takeWhile Action.isData

/-- The framing of a burst's `n` data items (R144). -/
def burstFraming (n : Nat) : List (Bool × Bool) :=
  (List.range n).map (fun j => (false, j + 1 == n))

/-- The wire command the cursor stands in, in the encoding of R99 to R101, where the actions from its
command on have the framing of R146 and pixel items follow 0x24 only (R209). -/
def State.wireEncoded (s : State) : Option Encoded :=
  let start := s.pc - s.itemIndex
  let acts := dataActions s.acts start
  let bytes := acts.map (fun a => (s.dataOf a).1)
  let framing := acts.map (fun a => (s.dataOf a).2)
  match s.acts[start]? with
  | some (.cmd b) =>
    if framing.all (fun f => f.1 && f.2) && (b == 0x24#8 || acts.all (fun a => !a.isPix))
    then some (.wire .single b bytes) else none
  | some (.burstCmd of b last) =>
    if last = bytes.isEmpty ∧ framing = burstFraming bytes.length then
      match of with
      | .lut         => some (.wire .lutBurst b bytes)
      | .initEntry k => some (.wire (.initBurst k) b bytes)
    else none
  | _ => none

/-- The wire instruction the sequencer's turn runs, if an operation runs and the cursor stands in one. -/
def State.fetchWire (s : State) : Option Instr :=
  if s.seqBusy && s.pins.rstN then s.wireEncoded.bind (fun e => (decode e).toOption) else none

/-- The instruction the next step runs, if it runs one. -/
def State.fetch (s : State) : Option Instr :=
  match s.turn with
  | .host a    => s.presented a
  | .sequencer => s.fetchWire
  | _          => none

/-- The effect of a turn that runs no instruction. -/
def State.turnEffect (s : State) : Turn → State
  | .host a       => s.hostAccess a
  | .sequencer    => s.sequencerStep
  | .busyIn level => s.sampleBusy level
  | .txReady level => { s with pins := { s.pins with txReady := level } }
  | .sAck level   => { s with pins := { s.pins with sAck := level } }
  | .srcWrite a v => s.writeSrc a v
  | .tick         => s.tick
  | .rstN level   => s.driveRstN level

/-- The data actions that send `data` with a wire command's framing (R143, R144). -/
def wireDataActions (frame : Frame) (data : List Byte) : List Action :=
  match frame with
  | .single => data.map dataAct
  | _       => burstData data

/-- The actions of a wire command (R142 to R144). -/
def wireActions (frame : Frame) (code : Byte) (data : List Byte) : List Action :=
  match frame with
  | .single      => .cmd code :: data.map dataAct
  | .lutBurst    => burst .lut code data
  | .initBurst k => burst (.initEntry k) code data

/-- `s` with an encoded instruction where the next step fetches it: a CMD word as the host write whose
turn is next; a wire command as the running action sequence, from its command item, with the sequencer's
turn next. -/
def State.place (s : State) (e : Encoded) : State :=
  match e with
  | .cmdWord v =>
    { s with
      turns := .host ⟨true, 0#17, v⟩ :: s.turns
      pins := { s.pins with rstN := true } }
  | .wire frame code data =>
    { s with
      turns := .sequencer :: s.turns
      pins := { s.pins with rstN := true }
      acts := wireActions frame code data ++ [.done]
      pc := 0
      seqBusy := true
      txq := none
      gateWait := false
      delayOn := false }

end Sys2Proof.Machine
end

