-- ==== Sys2Proof/Machine/Step.lean ====
section
/-! DEFINITION. One step: the turn at the head of the schedule, or the sequencer's where none is
scheduled (R9). A turn that runs an instruction is the `exec` of it. A parameter record that is not legal
is refused before anything runs (93_implementation_defined.md U3). -/

namespace Sys2Proof.Machine

/-- One step of the machine. -/
def step (s : State) : Host.Outcome State Fault Refusal :=
  if s.params.legal then
    match s.fetch with
    | some i => exec i s.popTurn
    | none   => .next (s.popTurn.turnEffect s.turn)
  else .refused .illegalConfiguration

/-- `s` with the instruction whose table bits are `w` stored where the next step fetches it. -/
def State.withFetchWord (s : State) (nbits w : Nat) : State :=
  match tableEncoded nbits w with
  | some e => s.place e
  | none   => s

end Sys2Proof.Machine
end

