-- ==== Sys2Proof/Machine/HostProgram.lean ====
section
/-! DEFINITION. The host's side of the interface as the spec writes host programs (R104, R105): register
names, the pseudo-instructions and the accesses each stands for, and the conditions POLL, WAITIDLE and
WAITPAGE wait for; and the receiver's view of the bus, which splits the item stream into wire commands
(R101). Labels, jumps and loops are the host's own control flow. -/

namespace Sys2Proof.Machine

/-- A register as host programs name it (R34, R104). -/
inductive HostReg
  | cmd | status | arg0 | arg1 | arg2 | arg3 | geom | paging | fbsize
  /-- `FB+<n>`: the aperture word that holds framebuffer byte `n`. -/
  | fb (n : Nat)
  /-- A hex offset. -/
  | offset (a : BitVec 17)
  deriving DecidableEq, Repr

/-- The offset of a register (R34, R104). -/
def HostReg.addr : HostReg → BitVec 17
  | .cmd      => 0x00000#17
  | .status   => 0x00004#17
  | .arg0     => 0x00008#17
  | .arg1     => 0x0000C#17
  | .arg2     => 0x00010#17
  | .arg3     => 0x00014#17
  | .geom     => 0x00018#17
  | .paging   => 0x0001C#17
  | .fbsize   => 0x00020#17
  | .fb n     => BitVec.ofNat 17 (0x10000 + n / 4 * 4)
  | .offset a => a

/-- `WR <reg>, <value32>` (R104). -/
def wr (r : HostReg) (v : Word) : HostAccess := ⟨true, r.addr, v⟩

/-- `RD <reg>` (R104). -/
def rd (r : HostReg) : HostAccess := ⟨false, r.addr, 0#32⟩

/-- The pseudo-instructions that are fixed lists of accesses (R105). -/
inductive Pseudo
  | nop
  | init
  | fill (c : Half)
  | setpixel (x y c : Half)
  | update
  | drawbitmap (base size : Word) (p : Bool)
  | updatewindow (x y w h : Half)
  | drawpaged
  | erase (p : Bool)
  | setrotation (r : Word)
  | pagedone
  deriving DecidableEq, Repr

/-- The accesses of a pseudo-instruction (R105). -/
def Pseudo.accesses : Pseudo → List HostAccess
  | .nop => [wr .cmd 0x0#32]
  | .init => [wr .cmd 0x1#32]
  | .fill c => [wr .arg1 (c.setWidth 32), wr .cmd 0x2#32]
  | .setpixel x y c => [wr .arg0 (y ++ x), wr .arg1 (c.setWidth 32), wr .cmd 0x3#32]
  | .update => [wr .cmd 0x4#32]
  | .drawbitmap base size p => [wr .arg2 base, wr .arg3 size, wr .cmd (cmdWordOf 5#4 p)]
  | .updatewindow x y w h => [wr .arg0 (y ++ x), wr .arg1 (h ++ w), wr .cmd 0x6#32]
  | .drawpaged => [wr .cmd 0x7#32]
  | .erase p => [wr .cmd (cmdWordOf 8#4 p)]
  | .setrotation r => [wr .arg0 r, wr .cmd 0x9#32]
  | .pagedone => [wr .cmd 0xA#32]

/-- `BLACK` (R246). -/
def colorBlack : Half := 0x0000#16

/-- `WHITE` (R246). -/
def colorWhite : Half := 0xFFFF#16

/-- When `POLL <reg>, <mask>, <value>` stops repeating (R104). -/
def pollMet (result mask value : Word) : Bool := result &&& mask == value

/-- When `WAITIDLE` stops, on a STATUS word (R105). -/
def waitIdleMet (status : Word) : Bool := pollMet status 0x1#32 0x0#32

/-- When `WAITPAGE` falls through, on a STATUS word: bit 1 set or bit 0 clear (R105). -/
def waitPageMet (status : Word) : Bool := status.getLsbD 1 || !status.getLsbD 0

/-- The host's turns for a list of accesses, in issue order (R73). -/
def hostTurns (as : List HostAccess) : List Turn := as.map .host

/-- The data items before the first command item, and the commands from there on. -/
def receiveAux : List BusItem → List Byte × List (Byte × List Byte)
  | [] => ([], [])
  | it :: rest =>
    let (ds, cs) := receiveAux rest
    if it.dc then (it.byte :: ds, cs) else ([], (it.byte, ds) :: cs)

/-- The wire commands a receiver finds in an item stream: each ends where the next `dc = 0` item begins,
whatever the framing (R101). -/
def receive (items : List BusItem) : List (Byte × List Byte) := (receiveAux items).2

end Sys2Proof.Machine
end

