-- ==== Sys2Proof/Safety.lean ====
section
/-! DEFINITION. The observation of a run (R10) and the terms the statements are made in: the legal phase
changes (R190), action lists that keep them, the state invariant (R48 with the canonical form of memory
and what each hold belongs to), and the checks of a sequence's shape (R102, R170, R209, R213). -/

namespace Sys2Proof.Machine

/-! ## Observation -/

/-- What a run is observed by (R10). -/
structure Observation where
  trace     : List BusItem
  rstLevels : List Bool
  fb        : List Byte
  status    : Word
  deriving DecidableEq, Repr

/-- The observation of a state (R10). -/
def State.observe (s : State) : Observation where
  trace := s.trace
  rstLevels := s.rstTrace
  fb := (List.range s.params.fbBytes).map s.fbByte
  status := s.status

/-- No host write to CMD is still to come. -/
def noRequestLeft (ts : List Turn) : Bool :=
  ts.all (fun t => match t with
    | .host a => !(a.write && a.offset == 0)
    | _       => true)

/-- A run is over when SEQ_BUSY = 0 and the host issues no further request (R10). -/
def State.runOver (s : State) : Bool := !s.seqBusy && noRequestLeft s.turns

/-- `n` steps of `f`, stopping at the first fault or refusal. -/
def runWith (f : State → Host.Outcome State Fault Refusal) :
    Nat → State → Host.Outcome State Fault Refusal
  | 0, s => .next s
  | n + 1, s =>
    match f s with
    | .next t    => runWith f n t
    | .fault r   => .fault r
    | .refused r => .refused r

/-- `n` steps of the machine. -/
def runSteps (n : Nat) (s : State) : Host.Outcome State Fault Refusal := runWith step n s

/-! ## Phases -/

/-- The legal PHASE changes (R190), but for the return to IDLE at reset. -/
def phaseEdge : Phase → Phase → Bool
  | .idle, .ponFull | .idle, .ponPart | .idle, .resetting => true
  | .ponFull, .transfer | .ponPart, .transfer | .ponPart, .pageWait => true
  | .transfer, .trigger | .transfer, .poff | .transfer, .pageWait => true
  | .trigger, .poff | .trigger, .settle | .trigger, .pageWait => true
  | .settle, .transfer | .pageWait, .transfer => true
  | .poff, .idle | .resetting, .idle => true
  | _, _ => false

/-- The actions still to run keep to R190 and R48 from a phase and a cursor on: every phase set is a
legal change, only a DRAWPAGED sets a page, the page handshake stands in PAGE_WAIT with a page set, and
`Done` is last, from POFF or RESETTING, with the cursor back at -1. -/
def wellPhased (p : Params) (op : BitVec 4) : Phase → BitVec 8 → List Action → Bool
  | _, _, [] => false
  | ph, cur, .setPhase q :: as => q != .idle && (q == ph || phaseEdge ph q) && wellPhased p op q cur as
  | ph, _, .setCursor v :: as =>
    (v == 0xFF#8 || (op == 7#4 && decide (v.toNat < p.pageCount))) && wellPhased p op ph v as
  | ph, cur, .raisePageReq :: as =>
    ph == .pageWait && !cur.msb && as.head? == some .awaitPage && wellPhased p op ph cur as
  | ph, cur, .awaitPage :: as => ph == .pageWait && !cur.msb && wellPhased p op ph cur as
  | ph, cur, .done :: as => as.isEmpty && cur == 0xFF#8 && phaseEdge ph .idle
  | ph, cur, .cmd _ :: as => wellPhased p op ph cur as
  | ph, cur, .burstCmd _ _ _ :: as => wellPhased p op ph cur as
  | ph, cur, .dat _ _ _ :: as => wellPhased p op ph cur as
  | ph, cur, .pix _ _ _ :: as => wellPhased p op ph cur as
  | ph, cur, .waitBusy :: as => wellPhased p op ph cur as
  | ph, cur, .delay _ :: as => wellPhased p op ph cur as
  | ph, cur, .preclear :: as => wellPhased p op ph cur as
  | ph, cur, .setRst _ :: as => wellPhased p op ph cur as

/-! ## The state invariant -/

/-- An action that waits at the busy gate (R148). -/
def Action.isGated : Action → Bool
  | .cmd _          => true
  | .burstCmd _ _ _ => true
  | .waitBusy       => true
  | _               => false

/-- An action that emits one item (R145). -/
def Action.emits : Action → Bool
  | .cmd _          => true
  | .burstCmd _ _ _ => true
  | .dat _ _ _      => true
  | .pix _ _ _      => true
  | _               => false

/-- A delay action (R149). -/
def Action.isDelay : Action → Bool
  | .delay _ => true
  | _        => false

/-- The action at the cursor, and what is asked of it. -/
def State.atAction (s : State) (q : Action → Bool) : Bool :=
  (s.acts[s.pc]?.map q).getD false

/-- The invariant of every reachable state (R48), with what makes it one that a step keeps. -/
structure Inv (s : State) : Prop where
  /-- The parameter record is legal (R6, U3). -/
  legal : s.params.legal = true
  /-- FB is in canonical form (R61). -/
  fbWf : s.fb.wf
  /-- No FB index outside the store is written (R61). -/
  fbInStore : ∀ c ∈ s.fb, c.1 < s.params.fbBytes
  /-- SRC is in canonical form. -/
  srcWf : s.src.wf
  /-- R48.1: SEQ_BUSY = 0 implies PHASE = IDLE, ACTS empty and pc = 0. -/
  idle : s.seqBusy = false → s.phase = .idle ∧ s.acts = [] ∧ s.pc = 0
  /-- While an operation runs, what is left of ACTS keeps to R190 and R48. -/
  running : s.seqBusy = true →
    wellPhased s.params s.latched.lOp s.phase s.pageCursor (s.acts.drop s.pc) = true
  /-- R48.2: a page request stands in PAGE_WAIT, at the AwaitPage it is for. -/
  request : s.pageReq = true →
    s.seqBusy = true ∧ s.phase = .pageWait ∧ s.paging = true ∧ s.acts[s.pc]? = some .awaitPage
  /-- R48.3: a page is set only by a running DRAWPAGED. -/
  cursor : s.paging = true → s.latched.lOp = 7#4 ∧ s.seqBusy = true
  /-- R31: PAGE_CURSOR is -1 or a page. -/
  cursorLegal : s.pageCursor = 0xFF#8 ∨ s.pageCursor.toNat < s.params.pageCount
  /-- R43, R207: PDONE is set only between a PAGEDONE and the release of its AwaitPage. -/
  pageDone : s.pdone = true → s.pageReq = false ∧ s.acts[s.pc]? = some .awaitPage
  /-- R29, R48.4: GATE_WAIT is set only at a gated action whose item is not yet on offer. -/
  gate : s.gateWait = true → s.seqBusy = true ∧ s.txq = none ∧ s.atAction Action.isGated = true
  /-- R44: DCNT runs only under a Delay. -/
  delay : s.delayOn = true → s.atAction Action.isDelay = true
  /-- R45: an item on offer is the current action's. -/
  offer : s.txq.isSome = true → s.atAction Action.emits = true
  /-- R65: a source read on request is the current action's. -/
  request_source : ∀ a, s.pins.sReq = some a → s.sourceRead = some a
  /-- R280: while `rst_n` is low nothing runs. -/
  inReset : s.pins.rstN = false → s.seqBusy = false

/-! ## The shape of a sequence -/

/-- A wire command byte the EPS may emit (R102). -/
def knownCode (p : Params) (b : Byte) : Bool :=
  [0x44#8, 0x45#8, 0x4E#8, 0x4F#8, 0x24#8, 0x22#8, 0x20#8, 0xFF#8].contains b
    || (InitStep.all.map (fun k => (p.initEntry k).cmd)).contains b
    || b == (lutTable p .full).headD 0#8 || b == (lutTable p .part).headD 0#8

/-- An action emits no command byte but the known ones (R102). -/
def Action.codeKnown (p : Params) : Action → Bool
  | .cmd b          => knownCode p b
  | .burstCmd _ b _ => knownCode p b
  | _               => true

/-- A bus item carries no command byte but the known ones (R102). -/
def BusItem.codeKnown (p : Params) (it : BusItem) : Bool := it.dc || knownCode p it.byte

/-- Every command byte emitted, on offer or still to come is a known one (R102). -/
structure KnownCodes (s : State) : Prop where
  emitted : ∀ it ∈ s.trace, it.codeKnown s.params = true
  onOffer : ∀ it, s.txq = some it → it.codeKnown s.params = true
  toCome  : ∀ a ∈ s.acts, a.codeKnown s.params = true

/-- The number of items an action list emits (R213). -/
def itemCount (acts : List Action) : Nat := acts.countP Action.emits

/-- Every `Cmd(0x24)` comes after a SetRamArea and then a SetRamPointer of its own (R170): `k` counts the
addressing commands seen in order since the last one. -/
def addressed : Nat → List Action → Bool
  | _, [] => true
  | k, .cmd b :: as =>
    if b = 0x44#8 then addressed 1 as
    else if b = 0x45#8 then addressed (if k = 1 then 2 else 0) as
    else if b = 0x4E#8 then addressed (if k = 2 then 3 else 0) as
    else if b = 0x4F#8 then addressed (if k = 3 then 4 else 0) as
    else if b = 0x24#8 then k == 4 && addressed 0 as
    else addressed k as
  | k, _ :: as => addressed k as

/-! ### The phases of a sequence written out, for the statements about the sequences -/

/-- R168 and R169 action by action: the X range, the Y range, the X pointer and the Y pointer of a window,
low bytes first. -/
def addressingActions (p : Params) (w : Window) : List Action :=
  let data := fun n : Nat => Action.dat (BitVec.ofNat 8 n) true true
  let ys := p.height - 1 - w.y0
  let ye := p.height - 1 - w.y1
  [.cmd 0x44#8, data (w.x0 / 8), data (w.x1 / 8),
   .cmd 0x45#8, data (ys % 256), data (ys / 256), data (ye % 256), data (ye / 256),
   .cmd 0x4E#8, data (w.x0 / 8), .cmd 0x4F#8, data (ys % 256), data (ys / 256)]

/-- R144: the gated command of a burst and its data, `last` on the final one. -/
def burstActions (of : BurstOf) (b : Byte) (ds : List Byte) : List Action :=
  .burstCmd of b (decide (ds.length = 0)) ::
    ds.mapIdx (fun j v => .dat v false (decide (j + 1 = ds.length)))

/-- R191 action by action: the six INIT ROM bursts in order, the window and pointer of `w`, the mode's LUT
and the power-on pair. -/
def powerOnActions (p : Params) (part : Bool) (w : Window) : List Action :=
  let lut := if part then p.lutPart else p.lutFull
  [.setPhase (if part then .ponPart else .ponFull)]
    ++ burstActions (.initEntry .panelConfig) p.panelConfig.cmd p.panelConfig.data
    ++ burstActions (.initEntry .softStart) p.softStart.cmd p.softStart.data
    ++ burstActions (.initEntry .vcom) p.vcom.cmd p.vcom.data
    ++ burstActions (.initEntry .dummyLine) p.dummyLine.cmd p.dummyLine.data
    ++ burstActions (.initEntry .gateTime) p.gateTime.cmd p.gateTime.data
    ++ burstActions (.initEntry .entryMode) p.entryMode.cmd p.entryMode.data
    ++ addressingActions p w ++ burstActions .lut (lut.headD 0#8) lut.tail
    ++ [.cmd 0x22#8, .dat p.pwrOnCtrl true true, .cmd 0x20#8]

/-- R196 action by action: 0x24 and the window's pixel bytes, whose order R196 gives. -/
def transferActions (w : Window) (src : Source) : List Action :=
  [.setPhase .transfer, .cmd 0x24#8] ++ pixStream w src

/-- R198 action by action. -/
def triggerActions (p : Params) (part : Bool) : List Action :=
  [.setPhase .trigger, .cmd 0x22#8, .dat (if part then p.updCtrlPart else p.updCtrlFull) true true,
   .cmd 0x20#8, .cmd 0xFF#8]

/-- R200 action by action. -/
def powerOffActions (p : Params) : List Action :=
  [.setPhase .poff, .cmd 0x22#8, .dat p.pwrOffCtrl true true, .cmd 0x20#8, .waitBusy, .done]

/-- R205 action by action: the first transfer, its partial trigger, the settle delay, the addressing again,
the second transfer and, with WIN_PASS2_TRIGGER, its trigger. -/
def windowPassActions (p : Params) (w : Window) (src : Source) : List Action :=
  transferActions w src ++ triggerActions p true
    ++ [.setPhase .settle, .delay p.settleMs, .setPhase .transfer]
    ++ addressingActions p w ++ transferActions w src
    ++ (if p.winPass2Trigger then triggerActions p true else [])

/-- How many `Pix` actions follow each `Cmd(0x24)` at once (R209). -/
def streamCounts : List Action → List Nat
  | [] => []
  | .cmd b :: as =>
    if b = 0x24#8 then (as.takeWhile Action.isPix).length :: streamCounts as else streamCounts as
  | _ :: as => streamCounts as

/-- The bus item an action emits in a state, if it emits one (R142 to R144, R196). -/
def State.itemOf (s : State) : Action → Option BusItem
  | .cmd b             => some ⟨false, b, true, true⟩
  | .burstCmd _ b last => some ⟨false, b, true, last⟩
  | .dat b first last  => some ⟨true, b, first, last⟩
  | .pix src r c       => some ⟨true, s.pixelByte src r c, true, true⟩
  | _                  => none

/-- The item the cursor stands at can go out in this step: nothing is on offer, the transport is ready,
and at a command item the gate is open (R142, R145). -/
structure ReadyToSend (s : State) : Prop where
  noOffer  : s.txq = none
  txReady  : s.pins.txReady = true
  gateOpen : s.itemIndex = 0 → s.gateWait = false ∧ s.busyS = false

/-- Every agent cooperates: the block is out of reset, nothing is scheduled but the sequencer, the
transport and the source port are ready and the panel is not busy (R290). -/
structure Cooperative (s : State) : Prop where
  legal   : s.params.legal = true
  rstN    : s.pins.rstN = true
  txReady : s.pins.txReady = true
  sAck    : s.pins.sAck = true
  busyS   : s.busyS = false
  turns   : s.turns = []

end Sys2Proof.Machine
end

