-- ==== Sys2Proof/Certificates/Slice0/Obligations.lean ====
section
/-! DEFINITION. The statements for the provers. A statement about an instruction's result is an equation
`exec i s = .next t` with `t` written out as an update of `s`, so it is the instruction's completion and
its frame in one: every field that `t` does not name is unchanged. -/

open Sys2Proof Sys2Proof.Machine

/-! ## Encoding -/

/-- Decoding the encoding of a well-formed instruction gives it back, with every operand (R91, R100). -/
def Obligations.DecodeOfEncodeIsTheInstruction : Prop :=
  ∀ i : Instr, i.wellFormed = true → decode (encode i) = .ok i

/-- What the decoder accepts is well formed and is the encoding of what it gives: at most one row of R92
matches a word, and no two encodings mean one instruction. -/
def Obligations.DecodedEncodingIsTheOnlyOne : Prop :=
  ∀ (e : Encoded) (i : Instr), decode e = .ok i → i.wellFormed = true ∧ encode i = e

/-- R93: a CMD word is ILLEGAL exactly where OP is 0xB to 0xF, or RSV0 or RSV1 is not 0, or P = 1 with OP
neither 0x5 nor 0x8; presented to CMD it is rejected with LAST_ERR = 1 and has no other effect. -/
def Obligations.IllegalCmdWordsAreRejected : Prop :=
  ∀ v : Word,
    let illegal := 0xB ≤ v.toNat % 16 ∨ v.toNat / 16 % 16 ≠ 0 ∨ v.toNat / 512 ≠ 0
      ∨ (v.toNat / 256 % 2 = 1 ∧ v.toNat % 16 ≠ 0x5 ∧ v.toNat % 16 ≠ 0x8)
    ((∀ i, decode (.cmdWord v) ≠ .ok i) ↔ illegal) ∧
    ∀ (s : State) (addr : BitVec 17) (ts : List Turn),
      illegal → s.params.legal = true → s.pins.rstN = true → addr.toNat / 4 = 0 →
      s.turns = .host ⟨true, addr, v⟩ :: ts →
      step s = .next { s with turns := ts, lastErr := .illegal }

/-- A few words written out from R91, R92 and R100 decode to the instructions they stand for. -/
def Obligations.WordsOfTheTablesDecode : Prop :=
  decode (.cmdWord 0x00000001#32) = .ok .init ∧
  decode (.cmdWord 0x00000003#32) = .ok .setpixel ∧
  decode (.cmdWord 0x00000105#32) = .ok (.drawbitmap true) ∧
  decode (.cmdWord 0x00000008#32) = .ok (.erase false) ∧
  decode (.cmdWord 0x0000000A#32) = .ok .pagedone ∧
  decode (.wire .single 0x45#8 [0xEF#8, 0x00#8, 0xE8#8, 0x00#8])
    = .ok (.setRamYRange 0xEF#8 0x00#8 0xE8#8 0x00#8) ∧
  decode (.wire .single 0x4E#8 [0x01#8]) = .ok (.setRamXPtr 0x01#8) ∧
  decode (.wire .single 0x20#8 []) = .ok .activate ∧
  decode (.wire (.initBurst .dummyLine) 0x3A#8 [0x1A#8]) = .ok (.initDummyLine 0x3A#8 [0x1A#8])

/-! ## Host requests -/

/-- R122: NOP is the CMD word 0, is accepted in every state and writes LAST_ERR only; a word with OP = 0
and any other bit set is ILLEGAL, not NOP. -/
def Obligations.NopOnlyClearsLastErr : Prop :=
  (∀ s : State, exec .nop s = .next { s with lastErr := .accepted }) ∧
  (∀ v : Word, v.toNat % 16 = 0 → (decode (.cmdWord v) = .ok .nop ↔ v = 0#32)) ∧
  (∀ (s : State) (addr : BitVec 17) (v : Word) (ts : List Turn),
    s.params.legal = true → s.pins.rstN = true → addr.toNat < 4 → v.toNat % 16 = 0 →
    s.turns = .host ⟨true, addr, v⟩ :: ts →
    step s = .next { s with turns := ts, lastErr := if v = 0#32 then .accepted else .illegal })

/-- INIT, with nothing running, writes PARTIAL = 0, latches every operand field and starts the reset-line
sequence of R123, which has no action that emits an item. -/
def Obligations.InitStartsTheResetLineSequence : Prop :=
  ∀ s : State, s.seqBusy = false →
    let acts := Action.setPhase .resetting ::
      (if s.params.resetPulseMs > 0
        then [.setRst false, .delay s.params.resetPulseMs, .setRst true,
              .delay s.params.resetRecoverMs, .setCursor 0xFF#8, .done]
        else [.setRst true, .setCursor 0xFF#8, .done])
    exec .init s = .next { s with
      lastErr := .accepted, partialLut := false, seqBusy := true, acts := acts, pc := 0, srcOld := []
      latched := ⟨0x1#4, false, s.args.arg0.extractLsb' 0 16, s.args.arg0.extractLsb' 16 16,
        s.args.arg1.extractLsb' 0 16, s.args.arg1.extractLsb' 16 16, s.args.arg2, s.args.arg3⟩ } ∧
    itemCount acts = 0

/-- SETROTATION, with nothing running, writes ROTATION = ARG0[1:0], ignoring ARG0[31:2], and clears
LAST_ERR; nothing else changes (R97, R124). -/
def Obligations.SetrotationWritesRotationOnly : Prop :=
  ∀ s : State, s.seqBusy = false →
    exec .setrotation s = .next { s with
      lastErr := .accepted, rotation := BitVec.ofNat 2 (s.args.arg0.toNat % 4) }

/-- PAGEDONE during a page request sets PDONE, clears PAGE_REQ and clears LAST_ERR; nothing else changes
(R125). -/
def Obligations.PagedoneHandsThePageOver : Prop :=
  ∀ s : State, s.seqBusy = true → s.pageReq = true →
    exec .pagedone s = .next { s with lastErr := .accepted, pdone := true, pageReq := false }

/-- FILL, with nothing running or during a page request, leaves every byte of the store 0xFF for COLOR 0
and 0x00 for any other COLOR, and changes nothing else but LAST_ERR (R245, R244). -/
def Obligations.FillWritesEveryStoreByte : Prop :=
  ∀ s : State, (s.seqBusy = true → s.pageReq = true) →
    ∃ t, exec .fill s = .next t ∧ t = { s with lastErr := .accepted, fb := t.fb } ∧
      (∀ i < s.params.fbBytes,
        t.fbByte i = if s.args.arg1.toNat % 65536 = 0 then 0xFF#8 else 0x00#8) ∧
      (∀ i, s.params.fbBytes ≤ i → t.fbByte i = s.fbByte i) ∧
      (s.fb.wf → t.fb.wf)

/-- SETPIXEL, with nothing running or during a page request: where the coordinates name a bit of the store
it is set for COLOR 0 and cleared for any other COLOR, with CLIP = 0, and every other framebuffer bit keeps
its value; where they name none, CLIP = 1 and FB is unchanged. Nothing else changes but LAST_ERR (R242,
R244, R247). -/
def Obligations.SetpixelPaintsOneBitOrClips : Prop :=
  ∀ s : State, (s.seqBusy = true → s.pageReq = true) →
    let x := (BitVec.ofNat 16 (s.args.arg0.toNat % 65536)).toInt
    let y := (BitVec.ofNat 16 (s.args.arg0.toNat / 65536)).toInt
    ∃ t, exec .setpixel s = .next t ∧
      t = { s with lastErr := .accepted, fb := t.fb, clip := t.clip } ∧
      (match s.pixelTarget x y with
        | some (i, k) => t.clip = false ∧ ∀ j n, (t.fbByte j).getLsbD n =
            if j = i ∧ n = k then decide (s.args.arg1.toNat % 65536 = 0) else (s.fbByte j).getLsbD n
        | none => t.clip = true ∧ t.fb = s.fb)

/-- The framebuffer bit SETPIXEL names: the bounds of R240, the remap of R241, the layout of R62, the page
clip and rebase of R243 and the store check of R242, all written out; and the byte is in the store. -/
def Obligations.PixelTargetIsTheRemappedBit : Prop :=
  ∀ (s : State) (x y : Int), s.params.legal = true →
    let W : Int := s.params.width
    let H : Int := s.params.height
    let swapped := s.rotation = 1#2 ∨ s.rotation = 3#2
    let bounded := 0 ≤ x ∧ 0 ≤ y ∧ (if swapped then x < H ∧ y < W else x < W ∧ y < H)
    let px : Int := if s.rotation = 0#2 then x else if s.rotation = 1#2 then W - 1 - y
      else if s.rotation = 2#2 then W - 1 - x else y
    let py : Int := if s.rotation = 0#2 then y else if s.rotation = 1#2 then x
      else if s.rotation = 2#2 then H - 1 - y else H - 1 - x
    let i : Int := px / 8 + py * (W / 8)
    let base : Int := if s.paging then s.page * s.params.pageBytes else 0
    let onPage := s.paging = true → base ≤ i ∧ i < base + s.params.pageBytes
    (∀ j k, s.pixelTarget x y = some (j, k) ↔
      bounded ∧ onPage ∧ i - base < s.params.fbBytes ∧ (j : Int) = i - base ∧ (k : Int) = 7 - px % 8) ∧
    (bounded → 0 ≤ px ∧ px < W ∧ 0 ≤ py ∧ py < H)

/-- The four operations that always start: each, with nothing running, latches its operands, writes
PARTIAL as R210 gives it, sets SEQ_BUSY and stands before the first action of its sequence (R120, R121,
R202, R203, R206, R208). The phases are written out (R191, R196, R198, R200), and so are DRAWPAGED's pages:
PAGE_COUNT of them, in order from page 0, each with its cursor, its page request, its row band and the window
pass of R205. -/
def Obligations.PanelOperationsStartTheirSequence : Prop :=
  ∀ (s : State) (p : Bool), s.seqBusy = false →
    let P := s.params
    let full : Window := ⟨0, P.width - 1, 0, P.height - 1⟩
    let started := fun (op : BitVec 4) (q part : Bool) (acts : List Action) =>
      ({ s with
        lastErr := .accepted, partialLut := part, seqBusy := true, acts := acts, pc := 0, srcOld := []
        latched := ⟨op, q, s.args.arg0.extractLsb' 0 16, s.args.arg0.extractLsb' 16 16,
          s.args.arg1.extractLsb' 0 16, s.args.arg1.extractLsb' 16 16, s.args.arg2, s.args.arg3⟩
        } : State)
    let band := fun k : Nat => (⟨0, P.width - 1, k * P.pageH, k * P.pageH + P.pageH - 1⟩ : Window)
    let page := fun k : Nat =>
      [.setPhase .pageWait, .setCursor (BitVec.ofNat 8 k)]
        ++ (if P.pagePreclear = .white then [.preclear] else [])
        ++ [.raisePageReq, .awaitPage, .setPhase .transfer]
        ++ addressingActions P (band k) ++ windowPassActions P (band k) .page
    exec .update s = .next (started 0x4#4 false false
      (powerOnActions P false full ++ transferActions full .fb ++ triggerActions P false
        ++ powerOffActions P)) ∧
    exec (.drawbitmap p) s = .next (started 0x5#4 p p
      (powerOnActions P p full ++ transferActions full .bmp ++ triggerActions P p ++ powerOffActions P)) ∧
    exec .drawpaged s = .next (started 0x7#4 false true
      (powerOnActions P true full ++ (List.range P.pageCount).flatMap page
        ++ [.setCursor 0xFF#8] ++ powerOffActions P)) ∧
    exec (.erase p) s = .next (started 0x8#4 p p
      (powerOnActions P p full ++ transferActions full .zero ++ triggerActions P p ++ powerOffActions P))

/-- UPDATEWINDOW with nothing running: a window that misses the panel sets CLIP and starts nothing;
any other is clamped to the panel, clears CLIP, sets PARTIAL and starts the windowed update (R163, R204).
Its power-on phase, which sets window and pointer for that same window (R191, R168, R169), its double transfer
(R205) and its power-off phase (R200) are written out. That a dropped window latches its operands too is the model's
reading of R120 (log 12), and the emptied record of replaced source bytes is the model's own (log 5). -/
def Obligations.UpdatewindowClampsOrDrops : Prop :=
  ∀ s : State, s.seqBusy = false →
    let x := s.args.arg0.toNat % 65536
    let y := s.args.arg0.toNat / 65536
    let w := s.args.arg1.toNat % 65536
    let h := s.args.arg1.toNat / 65536
    let W := s.params.width
    let H := s.params.height
    let win : Window := ⟨x, min W (x + w) - 1, y, min H (y + h) - 1⟩
    let l : Latched := ⟨0x6#4, false, s.args.arg0.extractLsb' 0 16, s.args.arg0.extractLsb' 16 16,
      s.args.arg1.extractLsb' 0 16, s.args.arg1.extractLsb' 16 16, s.args.arg2, s.args.arg3⟩
    exec .updatewindow s = .next
      (if x ≥ W ∨ y ≥ H ∨ w = 0 ∨ h = 0
        then { s with lastErr := .accepted, clip := true, latched := l }
        else { s with
          lastErr := .accepted, clip := false, latched := l, partialLut := true, seqBusy := true
          pc := 0, srcOld := []
          acts := powerOnActions s.params true win ++ windowPassActions s.params win .fb
            ++ powerOffActions s.params })

/-- R98: a request reads only its operand fields, at its acceptance. With ARG registers that agree on
those fields it does the same, but for the ARG registers themselves and the latched copies of fields it does
not read. -/
def Obligations.RequestsReadOnlyTheirOperands : Prop :=
  ∀ (s : State) (a : Args) (i : Instr) (p : Bool),
    let low := fun (n : Nat) (v w : Word) => v.toNat % 2 ^ n = w.toNat % 2 ^ n
    (i ∈ [Instr.nop, .init, .update, .drawpaged, .pagedone, .erase p]
      ∨ (i = .fill ∧ low 16 a.arg1 s.args.arg1)
      ∨ (i = .setpixel ∧ a.arg0 = s.args.arg0 ∧ low 16 a.arg1 s.args.arg1)
      ∨ (i = .drawbitmap p ∧ a.arg2 = s.args.arg2 ∧ a.arg3 = s.args.arg3)
      ∨ (i = .updatewindow ∧ a.arg0 = s.args.arg0 ∧ a.arg1 = s.args.arg1)
      ∨ (i = .setrotation ∧ low 2 a.arg0 s.args.arg0)) →
    ∃ t l, exec i s = .next t ∧ exec i { s with args := a } = .next { t with args := a, latched := l } ∧
      l.lOp = t.latched.lOp ∧ l.lP = t.latched.lP ∧
      (i = .drawbitmap p → l.lBase = t.latched.lBase ∧ l.lSize = t.latched.lSize) ∧
      (i = .updatewindow → l.lX = t.latched.lX ∧ l.lY = t.latched.lY ∧ l.lW = t.latched.lW
        ∧ l.lH = t.latched.lH) ∧
      (i ∈ [Instr.nop, .fill, .setpixel, .setrotation, .pagedone] → l = t.latched)

/-- While an operation runs, every request but NOP, and but FILL, SETPIXEL and PAGEDONE during a page
request, is rejected with BUSY: LAST_ERR = 2 and nothing else changes (R120, R262, R265). -/
def Obligations.RequestsWhileBusyAreRejected : Prop :=
  ∀ (s : State) (i : Instr), s.seqBusy = true →
    ((i ∈ [Instr.init, .update, .drawbitmap false, .drawbitmap true, .updatewindow, .drawpaged,
        .erase false, .erase true, .setrotation]) ∨
      (s.pageReq = false ∧ i ∈ [Instr.fill, .setpixel, .pagedone])) →
    exec i s = .next { s with lastErr := .busy }

/-- PAGEDONE with nothing running is rejected with STATE: LAST_ERR = 3 and nothing else changes, PDONE
with it (R263, R265). -/
def Obligations.PagedoneWithNothingRunningIsRejected : Prop :=
  ∀ s : State, s.seqBusy = false → exec .pagedone s = .next { s with lastErr := .state }

/-! ## Wire commands -/

/-- The RAM addressing commands, one step each item: with everything ready, the item the cursor stands at
leaves, in the order command, then data bytes, low byte before high byte, each its own transaction, and
only the trace and the cursor change (R164 to R167, R142, R143, R145). -/
def Obligations.RamAddressingCommandsSendTheirItems : Prop :=
  ∀ (s : State) (a b c d : Byte) (it : BusItem), ReadyToSend s →
    let sent := ({ s with trace := s.trace ++ [it], pc := s.pc + 1 } : State)
    let items := fun (code : Byte) (data : List Byte) =>
      (⟨false, code, true, true⟩ : BusItem) :: data.map (fun v => ⟨true, v, true, true⟩)
    ((items 0x44#8 [a, b])[s.itemIndex]? = some it →
      exec (.setRamXRange a b) s = .next sent) ∧
    ((items 0x45#8 [a, b, c, d])[s.itemIndex]? = some it →
      exec (.setRamYRange a b c d) s = .next sent) ∧
    ((items 0x4E#8 [a])[s.itemIndex]? = some it → exec (.setRamXPtr a) s = .next sent) ∧
    ((items 0x4F#8 [a, b])[s.itemIndex]? = some it → exec (.setRamYPtr a b) s = .next sent)

/-- WRITE_LUT, one step each item: 0x32 opens one transaction that its last data item closes (R180, R181,
R144, R145). -/
def Obligations.WriteLutSendsOneBurst : Prop :=
  ∀ (s : State) (lut : List Byte) (b : Byte), ReadyToSend s → lut.length = 30 →
    let sent := fun it : BusItem => ({ s with trace := s.trace ++ [it], pc := s.pc + 1 } : State)
    (s.itemIndex = 0 → exec (.writeLut lut) s = .next (sent ⟨false, 0x32#8, true, false⟩)) ∧
    (∀ j < 30, s.itemIndex = j + 1 → lut[j]? = some b →
      exec (.writeLut lut) s = .next (sent ⟨true, b, false, decide (j = 29)⟩))

/-- WRITE_RAM, one step each item: 0x24, then each pixel byte as its own transaction. A pixel item whose
byte is read from SRC goes out once the source port acknowledges, and the request is withdrawn (R196, R65,
R145); a raced read uses up one draw (log 5). -/
def Obligations.WriteRamSendsPixelItems : Prop :=
  ∀ (s : State) (pixels : List Byte) (it : BusItem), ReadyToSend s →
    ((⟨false, 0x24#8, true, true⟩ : BusItem) :: pixels.map (fun v => ⟨true, v, true, true⟩))[s.itemIndex]?
      = some it →
    (s.sourceRead = none →
      exec (.writeRam pixels) s = .next { s with trace := s.trace ++ [it], pc := s.pc + 1 }) ∧
    (∀ a, s.sourceRead = some a → s.pins.sAck = true →
      exec (.writeRam pixels) s = .next { s with
        trace := s.trace ++ [it], pc := s.pc + 1
        pins := { s.pins with sReq := none }
        draw := if s.srcRaced a then s.draw + 1 else s.draw }) ∧
    (∀ a, s.sourceRead = some a → s.pins.sAck = false →
      exec (.writeRam pixels) s = .next { s with pins := { s.pins with sReq := some a } })

/-- UPDATE_CTRL, ACTIVATE and END, one step each item (R194, R195, R199, R142, R145). -/
def Obligations.ControlCommandsSendTheirItems : Prop :=
  ∀ (s : State) (ctrl : Byte), ReadyToSend s →
    let sent := fun it : BusItem => ({ s with trace := s.trace ++ [it], pc := s.pc + 1 } : State)
    (s.itemIndex = 0 → exec (.updateCtrl ctrl) s = .next (sent ⟨false, 0x22#8, true, true⟩)) ∧
    (s.itemIndex = 1 → exec (.updateCtrl ctrl) s = .next (sent ⟨true, ctrl, true, true⟩)) ∧
    (s.itemIndex = 0 → exec .activate s = .next (sent ⟨false, 0x20#8, true, true⟩)) ∧
    (s.itemIndex = 0 → exec .endUpdate s = .next (sent ⟨false, 0xFF#8, true, true⟩))

/-- The six INIT ROM entries, one step each item: each is one transaction of the command byte and its data,
and a command alone where there is no data (R192, R144, R145). -/
def Obligations.InitTableEntriesSendOneBurst : Prop :=
  ∀ (s : State) (i : Instr) (cmd : Byte) (data : List Byte), ReadyToSend s →
    i ∈ [Instr.initPanelConfig cmd data, .initSoftStart cmd data, .initVcom cmd data,
      .initDummyLine cmd data, .initGateTime cmd data, .initEntryMode cmd data] →
    let sent := fun it : BusItem => ({ s with trace := s.trace ++ [it], pc := s.pc + 1 } : State)
    (s.itemIndex = 0 → exec i s = .next (sent ⟨false, cmd, true, decide (data = [])⟩)) ∧
    (∀ j b, s.itemIndex = j + 1 → data[j]? = some b →
      exec i s = .next (sent ⟨true, b, false, decide (j + 1 = data.length)⟩))

/-- The busy gate is in front of exactly the command items. At one, with busy asserted, every wire command
holds with GATE_WAIT = 1 and sends nothing. It looks again after POLL_MS ticks and not before, whatever the
line does meanwhile; a poll that sees busy holds on, and one that sees none clears GATE_WAIT and lets the
item out, to the transport where it is ready and else on offer (R141, R142, R145, R148). The ticks since the
last check are `pollTicks`: each check starts them at 0, and a tick of the timer adds one while GATE_WAIT is
set and none otherwise, runs down a started delay, and does nothing else (R150, R149). That the poll is the
sequencer's first turn after those ticks is the model's reading of R141 (log 10). -/
def Obligations.CommandItemsWaitAtTheBusyGate : Prop :=
  (∀ (s : State) (i : Instr) (f : Frame) (code : Byte) (data : List Byte),
    encode i = .wire f code data → s.itemIndex = 0 → s.txq = none →
    let it : BusItem := ⟨false, code, true, decide (f = .single ∨ data = [])⟩
    (s.gateWait = false → s.busyS = true →
      exec i s = .next { s with gateWait := true, pollTicks := 0 }) ∧
    (s.gateWait = true → s.pollTicks < s.params.pollMs → exec i s = .next s) ∧
    (s.gateWait = true → s.params.pollMs ≤ s.pollTicks → s.busyS = true →
      exec i s = .next { s with pollTicks := 0 }) ∧
    (s.gateWait = true → s.params.pollMs ≤ s.pollTicks → s.busyS = false →
      exec i s = .next (if s.pins.txReady
        then { s with gateWait := false, pollTicks := 0, trace := s.trace ++ [it], pc := s.pc + 1 }
        else { s with gateWait := false, pollTicks := 0, txq := some it }))) ∧
  (∀ (s : State) (ts : List Turn), s.params.legal = true → s.turns = .tick :: ts →
    step s = .next { s with
      turns := ts
      pollTicks := if s.gateWait = true then s.pollTicks + 1 else s.pollTicks
      dcnt := if s.delayOn = true ∧ s.dcnt ≠ 0#32 then s.dcnt - 1#32 else s.dcnt })

/-- A stalled transport: the item a wire command forms, with the framing of R146, stays on offer unchanged
and the cursor stays; once the transport is ready the item on offer leaves, whatever the busy line does
(R145, R142). A pixel item that WRITE_RAM reads from SRC is formed once the source port acknowledges, and
until then the read stays on request (R65). A change of `tx_ready` or `s_ack` is a turn of its own, which
changes that level only (R8, R9). -/
def Obligations.StalledTransportKeepsTheOffer : Prop :=
  (∀ (s : State) (i : Instr) (f : Frame) (code : Byte) (data : List Byte),
    encode i = .wire f code data → s.itemIndex ≤ data.length →
    let it : BusItem := ⟨decide (0 < s.itemIndex), (code :: data).getD s.itemIndex 0#8,
      decide (f = .single ∨ s.itemIndex = 0), decide (f = .single ∨ s.itemIndex = data.length)⟩
    (∀ o, s.txq = some o → s.pins.txReady = false → exec i s = .next s) ∧
    (∀ o, s.txq = some o → s.pins.txReady = true →
      exec i s = .next { s with txq := none, trace := s.trace ++ [o], pc := s.pc + 1 }) ∧
    (s.txq = none → s.pins.txReady = false →
      (s.itemIndex = 0 → s.gateWait = false ∧ s.busyS = false) →
      (s.sourceRead = none ∨ (∀ pixels, i ≠ .writeRam pixels) →
        exec i s = .next { s with txq := some it }) ∧
      (∀ a pixels, s.sourceRead = some a → i = .writeRam pixels →
        exec i s = .next (if s.pins.sAck
          then { s with
            txq := some it
            pins := { s.pins with sReq := none }
            draw := if s.srcRaced a then s.draw + 1 else s.draw }
          else { s with pins := { s.pins with sReq := some a } })))) ∧
  (∀ (s : State) (level : Bool) (ts : List Turn), s.params.legal = true →
    (s.turns = .txReady level :: ts →
      step s = .next { s with turns := ts, pins := { s.pins with txReady := level } }) ∧
    (s.turns = .sAck level :: ts →
      step s = .next { s with turns := ts, pins := { s.pins with sAck := level } }))

/-! ## A step -/

/-- A step runs the fetched instruction: with a legal configuration, on the state less the turn taken. A
host turn fetches the request its write to CMD presents; the sequencer's turn, also the one taken where
nothing is scheduled, fetches the wire command at the cursor. -/
def Obligations.StepRunsTheFetchedInstruction : Prop :=
  (∀ (s : State) (i : Instr), s.params.legal = true → s.fetch = some i →
    step s = exec i { s with turns := s.turns.tail }) ∧
  (∀ (s : State) (addr : BitVec 17) (v : Word) (ts : List Turn) (i : Instr),
    s.params.legal = true → s.pins.rstN = true → s.turns = .host ⟨true, addr, v⟩ :: ts →
    addr.toNat < 4 → decode (.cmdWord v) = .ok i → step s = exec i { s with turns := ts })

/-- A step at a wire command runs it: where the running sequence holds the actions of an encoded wire
command, and the cursor stands at one of them, the sequencer's turn is `exec` of the decoded instruction.
So is it at the `Cmd(0x24)` and the `Pix` actions of a transfer (R196): it is WRITE_RAM with the bytes these
actions form now. -/
def Obligations.StepRunsTheWireCommandAtTheCursor : Prop :=
  ∀ (s : State) (pre post : List Action),
    s.params.legal = true → s.pins.rstN = true → s.seqBusy = true →
    (s.turns = [] ∨ s.turns.head? = some .sequencer) →
    (∀ a, post.head? = some a → a.isData = false) → pre.length ≤ s.pc →
    (∀ (f : Frame) (code : Byte) (data : List Byte) (i : Instr),
      decode (.wire f code data) = .ok i → s.acts = pre ++ wireActions f code data ++ post →
      s.pc ≤ pre.length + data.length → step s = exec i { s with turns := s.turns.tail }) ∧
    (∀ pix : List (Source × Nat × Nat), 1 ≤ pix.length → pix.length ≤ 256 * 65535 →
      s.acts = pre ++ .cmd 0x24#8 :: pix.map (fun q => .pix q.1 q.2.1 q.2.2) ++ post →
      s.pc ≤ pre.length + pix.length →
      step s = exec (.writeRam (pix.map (fun q => s.pixelByte q.1 q.2.1 q.2.2)))
        { s with turns := s.turns.tail })

/-- Which parameter records are illegal, written out, and that one is refused before anything runs. U3 names
three kinds and their treatment: a LUT whose byte 0 is not 0x32 (R184), an ENTRY_MODE that does not select X
incrementing, Y decrementing and X first (R161, R40), and equal trigger bytes (R41). That a geometry, a table
or entry length or a POLL_MS outside R6, R39 and R40 is refused too, that the record carries what ENTRY_MODE
selects, and that every step answers the refusal, is the model's choice (log 15). -/
def Obligations.IllegalConfigurationIsRefused : Prop :=
  ∀ s : State,
    let P := s.params
    let namedByU3 := P.lutFull.head? ≠ some 0x32#8 ∨ P.lutPart.head? ≠ some 0x32#8 ∨
      ¬(P.entrySelects.xIncrement = true ∧ P.entrySelects.yIncrement = false ∧
        P.entrySelects.xFirst = true) ∨
      P.updCtrlFull = P.updCtrlPart
    let geometry := P.width % 8 ≠ 0 ∨ P.width < 8 ∨ 2048 < P.width ∨ P.height < 1 ∨ 65535 < P.height ∨
      P.bpp ≠ 1 ∨ P.pageCount < 1 ∨ 127 < P.pageCount ∨ P.height % P.pageCount ≠ 0 ∨
      P.fbBytes < 1 ∨ 65536 < P.fbBytes ∨ P.fbBytes < P.width / 8 * (P.height / P.pageCount)
    let lengths := P.lutFull.length ≠ 31 ∨ P.lutPart.length ≠ 31 ∨
      ∃ e ∈ [P.panelConfig, P.softStart, P.vcom, P.dummyLine, P.gateTime, P.entryMode], 15 < e.data.length
    let illegal := namedByU3 ∨ geometry ∨ lengths ∨ P.pollMs < 1
    (P.legal = false ↔ illegal) ∧ (illegal → step s = .refused .illegalConfiguration)

/-- Nothing stops a configured EPS: with a legal parameter record every step answers a next state (R212,
R260). -/
def Obligations.LegalConfigurationNeverStops : Prop :=
  ∀ s : State, s.params.legal = true → ∃ t, step s = .next t

/-! ## Invariants and whole-machine rules -/

/-- Every step keeps the invariant: R48, the canonical form of the memories, the page handshake and what
each hold belongs to. -/
def Obligations.EveryStepKeepsTheInvariant : Prop :=
  ∀ s t : State, Inv s → step s = .next t → Inv t

/-- The state after reset has the invariant. -/
def Obligations.ResetStateHasTheInvariant : Prop := Inv State.reset

/-- PHASE changes only as R190 allows: from a state with the invariant, a step leaves PHASE alone, makes a
legal change, or resets the block. -/
def Obligations.PhaseChangesAreLegal : Prop :=
  ∀ s t : State, Inv s → step s = .next t →
    t.phase = s.phase ∨ phaseEdge s.phase t.phase = true
      ∨ (s.turn = .rstN false ∧ t.phase = .idle)

/-- The EPS emits no command byte but the codes of R100, the INIT ROM's and the LUT ROM's byte 0: every
step keeps that of what is emitted, on offer and still to come (R102). -/
def Obligations.OnlyKnownCommandBytesAreEmitted : Prop :=
  ∀ s t : State, KnownCodes s → step s = .next t → KnownCodes t

/-- FB has three writers (R61): a step that changes a framebuffer byte runs FILL or SETPIXEL, or is the
sequencer's `Preclear`. -/
def Obligations.FramebufferHasThreeWriters : Prop :=
  ∀ s t : State, step s = .next t → t.fb ≠ s.fb →
    s.fetch = some .fill ∨ s.fetch = some .setpixel
      ∨ (s.turn = .sequencer ∧ s.seqBusy = true ∧ s.acts[s.pc]? = some .preclear)

/-- Each register has its writers: ROTATION is written by SETROTATION (R32), PAGE_CURSOR by `SetCursor`
(R31), CLIP by SETPIXEL and UPDATEWINDOW (R28), the latched operands by an operation's acceptance (R42),
ARG0 to ARG3 by host writes to them (R21), each besides the block reset; the parameter record by nothing. -/
def Obligations.RegistersHaveTheirWriters : Prop :=
  ∀ s t : State, step s = .next t → s.turn ≠ .rstN false →
    (t.rotation ≠ s.rotation → s.fetch = some .setrotation) ∧
    (t.pageCursor ≠ s.pageCursor → s.turn = .sequencer ∧ ∃ v, s.acts[s.pc]? = some (.setCursor v)) ∧
    (t.clip ≠ s.clip → s.fetch = some .setpixel ∨ s.fetch = some .updatewindow) ∧
    (t.latched ≠ s.latched → ∃ i, s.fetch = some i ∧ (i ∈ [Instr.init, .update, .updatewindow, .drawpaged]
      ∨ ∃ p, i = .drawbitmap p ∨ i = .erase p)) ∧
    (t.args ≠ s.args → ∃ a, s.turn = .host a ∧ a.write = true ∧ 8 ≤ a.offset ∧ a.offset ≤ 0x14) ∧
    t.params = s.params

/-- A host access cannot disturb a running operation: while SEQ_BUSY = 1 and PAGE_REQ = 0 it changes
LAST_ERR, the ARG registers and the read data, and nothing else (R262, R265, R284). -/
def Obligations.HostCannotDisturbARunningOperation : Prop :=
  ∀ (s t : State) (a : HostAccess), s.turn = .host a → s.seqBusy = true → s.pageReq = false →
    step s = .next t →
    t = { s with
      turns := s.turns.tail, lastErr := t.lastErr, args := t.args
      pins := { s.pins with hRdata := t.pins.hRdata } }

/-- The cursor never moves backwards and never skips (R23, R211). On the sequencer's turn a running sequence
stays the same and the cursor stays or advances by one, or `Done` empties it. On every other turn, the
assertion of `rst_n` apart, a running sequence and its cursor stay as they are. With nothing running they
change only where a host's request starts an operation, whose first action the cursor then stands at. -/
def Obligations.TheCursorNeverSkips : Prop :=
  ∀ s t : State, s.turn ≠ .rstN false → step s = .next t →
    (s.seqBusy = true → s.turn = .sequencer →
      (t.acts = s.acts ∧ (t.pc = s.pc ∨ t.pc = s.pc + 1)) ∨
      (s.acts[s.pc]? = some .done ∧ t.acts = [] ∧ t.pc = 0 ∧ t.seqBusy = false)) ∧
    (s.seqBusy = true → s.turn ≠ .sequencer → t.acts = s.acts ∧ t.pc = s.pc) ∧
    (s.seqBusy = false → (t.acts = s.acts ∧ t.pc = s.pc) ∨
      (t.seqBusy = true ∧ t.pc = 0 ∧ ∃ a, s.turn = .host a ∧ a.write = true ∧ a.offset = 0))

/-! ## The host port -/

/-- R21, R66: a host write to an ARG register stores all 32 bits whatever `h_addr[1:0]` is, leaves the
others alone, and the next read of it returns the value; nothing else changes. -/
def Obligations.ArgRegistersStoreAndReadBack : Prop :=
  ∀ (s : State) (k : Nat) (w r : BitVec 17) (v d : Word) (ts : List Turn),
    s.params.legal = true → s.pins.rstN = true → k < 4 →
    w.toNat / 4 = 2 + k → r.toNat / 4 = 2 + k →
    s.turns = .host ⟨true, w, v⟩ :: .host ⟨false, r, d⟩ :: ts →
    runSteps 2 s = .next { s with
      turns := ts
      args := ⟨if k = 0 then v else s.args.arg0, if k = 1 then v else s.args.arg1,
        if k = 2 then v else s.args.arg2, if k = 3 then v else s.args.arg3⟩
      pins := { s.pins with hRdata := v } }

/-- R36: every field of STATUS stands where the table puts it, and the reserved fields read 0. PHASE has
R24's encoding and LAST_ERR R33's codes, written out. -/
def Obligations.StatusFieldsStandInPlace : Prop :=
  ∀ s : State,
    let phase := match s.phase with
      | .idle => 0 | .ponFull => 1 | .ponPart => 2 | .transfer => 3 | .trigger => 4
      | .poff => 5 | .pageWait => 6 | .settle => 7 | .resetting => 8
    let lastErr := match s.lastErr with
      | .accepted => 0 | .illegal => 1 | .busy => 2 | .state => 3
    s.status.toNat =
      s.seqBusy.toNat + 2 * s.pageReq.toNat + 4 * s.partialLut.toNat + 8 * s.busyS.toNat
        + 16 * s.clip.toNat + 32 * s.gateWait.toNat + 256 * phase
        + 4096 * s.rotation.toNat + 65536 * s.pageCursor.toNat + 16777216 * lastErr

/-- R68: a read of any offset is free of side effects: it leaves its result and changes nothing else. While
`rst_n` is low the result is 0 (R280). Out of reset it is the word of R34's map at the aligned offset: 0 for
CMD (R35), STATUS at 0x00004 (R36), the ARG registers, the configuration registers, 0 for a reserved offset,
and from 0x10000 on the four framebuffer bytes there. -/
def Obligations.ReadsHaveNoSideEffect : Prop :=
  ∀ (s : State) (addr : BitVec 17) (d : Word) (ts : List Turn), s.params.legal = true →
    s.turns = .host ⟨false, addr, d⟩ :: ts →
    let w := addr.toNat / 4
    let j := 4 * w - 0x10000
    ∃ v, step s = .next { s with turns := ts, pins := { s.pins with hRdata := v } } ∧
      (s.pins.rstN = false → v = 0#32) ∧
      (s.pins.rstN = true → v =
        if w = 0 then 0#32 else if w = 1 then s.status
        else if w = 2 then s.args.arg0 else if w = 3 then s.args.arg1
        else if w = 4 then s.args.arg2 else if w = 5 then s.args.arg3
        else if w = 6 then geomWord s.params else if w = 7 then pagingWord s.params
        else if w = 8 then fbSizeWord s.params
        else if w < 0x4000 then 0#32
        else s.apertureByte (j + 3) ++ s.apertureByte (j + 2) ++ s.apertureByte (j + 1)
          ++ s.apertureByte j)

/-- R38: an access to a reserved offset, 0x00024 to 0x0FFFF, reads 0, and its write is ignored: no
rejection and no other change of state. -/
def Obligations.ReservedOffsetsReadZeroAndIgnoreWrites : Prop :=
  ∀ (s : State) (a : HostAccess) (ts : List Turn), s.params.legal = true →
    0x00024 ≤ a.addr.toNat → a.addr.toNat ≤ 0x0FFFF → s.turns = .host a :: ts →
    step s = .next (if a.write then { s with turns := ts }
      else { s with turns := ts, pins := { s.pins with hRdata := 0#32 } })

/-- Writes to STATUS, the configuration registers and the aperture are ignored (R34, R67). -/
def Obligations.ReadOnlyOffsetsIgnoreWrites : Prop :=
  ∀ (s : State) (addr : BitVec 17) (v : Word) (ts : List Turn), s.params.legal = true →
    (addr.toNat / 4 = 1 ∨ (6 ≤ addr.toNat / 4 ∧ addr.toNat / 4 ≤ 8) ∨ 0x10000 ≤ addr.toNat) →
    s.turns = .host ⟨true, addr, v⟩ :: ts → step s = .next { s with turns := ts }

/-- R67: a read of offset `0x10000 + 4j` returns framebuffer bytes 4j to 4j+3, byte 4j in bits [7:0], a
byte at or beyond FB_BYTES as 0x00, during an operation too; a write there is ignored. -/
def Obligations.ApertureReadsFramebufferBytes : Prop :=
  ∀ (s : State) (j : Nat) (write : Bool) (v : Word) (ts : List Turn), j < 16384 →
    s.params.legal = true → s.pins.rstN = true →
    s.turns = .host ⟨write, BitVec.ofNat 17 (0x10000 + 4 * j), v⟩ :: ts →
    (write = true → step s = .next { s with turns := ts }) ∧
    (write = false → ∃ r : Word,
      step s = .next { s with turns := ts, pins := { s.pins with hRdata := r } } ∧
      ∀ k < 4, ∀ i < 8, r.getLsbD (8 * k + i)
        = (if 4 * j + k < s.params.fbBytes then (s.fbByte (4 * j + k)).getLsbD i else false))

/-- R37: for a legal record GEOM holds W below H, PAGING holds PAGE_COUNT below eight zero bits below
PAGE_H, FBSIZE holds FB_BYTES, with no bit lost; a write to them is ignored; and the example's values. -/
def Obligations.ConfigurationRegistersHoldTheParameters : Prop :=
  (∀ s : State, s.params.legal = true →
    (s.hostRead 0x18).toNat = s.params.width + 65536 * s.params.height ∧
    (s.hostRead 0x1C).toNat = s.params.pageCount + 65536 * (s.params.height / s.params.pageCount) ∧
    (s.hostRead 0x20).toNat = s.params.fbBytes ∧ s.params.height ≤ 65535 ∧
    ∀ (addr : BitVec 17) (v : Word) (ts : List Turn), 6 ≤ addr.toNat / 4 → addr.toNat / 4 ≤ 8 →
      s.turns = .host ⟨true, addr, v⟩ :: ts → step s = .next { s with turns := ts }) ∧
  (∀ s : State, s.params.width = 128 → s.params.height = 250 → s.params.pageCount = 5 →
    s.params.fbBytes = 4000 →
    s.hostRead 0x18 = 0x00FA0080#32 ∧ s.hostRead 0x1C = 0x00320005#32 ∧ s.hostRead 0x20 = 0x00000FA0#32)

/-! ## Windows and sequences -/

/-- R161: a window on the panel of a legal record has `xs <= xe` and `YS >= YE`, and its descriptor's
bytes give the coordinates back with nothing lost; a page window and the full window are on the panel. -/
def Obligations.WindowDescriptorsLoseNothing : Prop :=
  ∀ (p : Params) (w : Window), p.legal = true →
    (w.onPanel p →
      w.xs ≤ w.xe ∧ w.ye p ≤ w.ys p ∧ w.ys p = p.height - 1 - w.y0 ∧ w.ye p = p.height - 1 - w.y1 ∧
      (lo8 w.xs).toNat = w.x0 / 8 ∧ (lo8 w.xe).toNat = w.x1 / 8 ∧
      (lo8 (w.ys p)).toNat + 256 * (hi8 (w.ys p)).toNat = w.ys p ∧
      (lo8 (w.ye p)).toNat + 256 * (hi8 (w.ye p)).toNat = w.ye p) ∧
    (fullWindow p).onPanel p ∧ (fullWindow p).count = p.wb * p.height ∧
    (∀ k < p.pageCount, (pageWindow p k).onPanel p ∧ (pageWindow p k).count = p.pageBytes ∧
      (pageWindow p k).ys p = p.height - 1 - k * p.pageH ∧
      (pageWindow p k).ye p = p.height - p.pageH * (k + 1))

/-- R163: a window that is not dropped is clamped to one on the panel that holds every pixel of the
request that is on the panel and no other. -/
def Obligations.ClampedWindowIsTheVisiblePart : Prop :=
  ∀ (p : Params) (x y w h : Nat), windowDropped p x y w h = false →
    let c := clampWindow p x y w h
    c.onPanel p ∧ ∀ px py, (c.x0 ≤ px ∧ px ≤ c.x1 ∧ c.y0 ≤ py ∧ py ≤ c.y1) ↔
      (x ≤ px ∧ px < x + w ∧ px < p.width ∧ y ≤ py ∧ py < y + h ∧ py < p.height)

/-- R196: the pixel stream of a window is row-major from its first row and first byte column, and its k-th
item lands where R79 places it: framebuffer row `py` and byte column `c` at panel `(c, H - 1 - py)`. -/
def Obligations.PixelStreamIsRowMajor : Prop :=
  ∀ (p : Params) (w : Window) (src : Source), w.onPanel p →
    (pixStream w src).length = w.count ∧
    ∀ k < w.count, ∃ r c, (pixStream w src)[k]? = some (.pix src r c) ∧
      r = w.y0 + k / w.nb ∧ c = w.xs + k % w.nb ∧ panelPlace p w k = (c, p.height - 1 - r)

/-- The item counts of R213, `NI` being the item count of the six INIT ROM bursts. -/
def Obligations.SequencesSendTheirItemCounts : Prop :=
  ∀ (p : Params) (m : LutMode) (src : Source) (w : Window), p.legal = true → w.onPanel p →
    let ni := ((InitStep.all.map (fun k => 1 + (p.initEntry k).data.length))).sum
    let extra := if p.winPass2Trigger then 4 else 0
    itemCount (fullPassSeq p m src) = ni + 55 + p.wb * p.height ∧
    itemCount (windowSeq p w) = ni + 69 + 2 * w.count + extra ∧
    itemCount (pagedSeq p) = ni + 50 + p.pageCount * (32 + 2 * p.pageBytes + extra) ∧
    itemCount (initSeq p) = 0

/-- R209: each `Cmd(0x24)` is followed at once by exactly the window's pixel actions, and no sequence has
pixel actions anywhere else. -/
def Obligations.EveryWriteRamStreamsItsWindow : Prop :=
  ∀ (p : Params) (m : LutMode) (src : Source) (w : Window), p.legal = true → w.onPanel p →
    streamCounts (fullPassSeq p m src) = [p.wb * p.height] ∧
    streamCounts (windowSeq p w) = [w.count, w.count] ∧
    streamCounts (pagedSeq p) = List.replicate (2 * p.pageCount) p.pageBytes ∧
    ∀ l : Latched, ((expand p l).countP Action.isPix) = (streamCounts (expand p l)).sum

/-- R170: in every sequence each `Cmd(0x24)` comes after a SetRamArea and a SetRamPointer, in that order,
sent since the `Cmd(0x24)` before it. -/
def Obligations.AddressingPrecedesEveryWriteRam : Prop :=
  ∀ (p : Params) (l : Latched), addressed 0 (expand p l) = true

/-- R212: every sequence that powers the panel on ends with the power-off pair, the closing wait and
`Done`, and `Done` stands nowhere else in a sequence. -/
def Obligations.PowerOffIsAlwaysReached : Prop :=
  ∀ (p : Params) (l : Latched), l.lOp ∈ [0x4#4, 0x5#4, 0x6#4, 0x7#4, 0x8#4] →
    ∃ head, expand p l = head ++ [.setPhase .poff, .cmd 0x22#8, .dat p.pwrOffCtrl true true,
      .cmd 0x20#8, .waitBusy, .done] ∧ Action.done ∉ head ∧ Action.waitBusy ∉ head

/-! ## The transform -/

/-- R230, R231: lane `i` of rev8 is input lane `7 - i`, lane `i` of T is the inverse of it, the inversion
and the reversal commute; with the rules' examples. -/
def Obligations.TransformIsEightInvertedLanes : Prop :=
  (∀ (b : Byte) (i : Nat), i < 8 →
    (rev8 b).getLsbD i = b.getLsbD (7 - i) ∧ (wireT b).getLsbD i = !(b.getLsbD (7 - i))) ∧
  (∀ b : Byte, wireT b = ~~~ rev8 b ∧ wireT b = rev8 (~~~ b)) ∧
  rev8 0x01#8 = 0x80#8 ∧ rev8 0x12#8 = 0x48#8 ∧
  (∀ c ∈ [(0x00#8, 0xFF#8), (0xFF#8, 0x00#8), (0x01#8, 0x7F#8), (0x80#8, 0xFE#8), (0x08#8, 0xEF#8),
    (0x12#8, 0xB7#8), (0xA5#8, 0x5A#8), (0x3C#8, 0xC3#8), (0xC0#8, 0xFC#8)], wireT c.1 = c.2)

/-- R233: T is an involution, as are its two commuting halves, so a bijection, and its fixed points are
the 16 bytes listed. -/
def Obligations.TransformIsAnInvolution : Prop :=
  (∀ b : Byte, wireT (wireT b) = b ∧ rev8 (~~~ (rev8 (~~~ b))) = b ∧ rev8 (rev8 b) = b) ∧
  Function.Bijective wireT ∧
  (∀ b : Byte, wireT b = b ↔ b ∈ [0x0F#8, 0x17#8, 0x2B#8, 0x33#8, 0x4D#8, 0x55#8, 0x69#8, 0x71#8,
    0x8E#8, 0x96#8, 0xAA#8, 0xB2#8, 0xCC#8, 0xD4#8, 0xE8#8, 0xF0#8]) ∧
  (∀ b : Byte, wireT b = b ↔ ∀ i < 4, b.getLsbD (7 - i) = !(b.getLsbD i))

/-- What a `Pix` of row `r` and byte column `c` sends, bit by bit: the inverse of pixel `8c + i` of its
source, 0 for black and 1 for white (R235, R197). From FB it is the framebuffer bit, or PAD_FB's beyond the
store. From the page it is the bit that SETPIXEL's rebase gives that pixel, which the store holds. From SRC it
is bit `7 - i` of the byte at L_BASE + k modulo 2^32 for k below L_SIZE, which is read through the source
port, or PAD_BMP's (R65, R203). ERASE's is white, and no other source reads SRC. -/
def Obligations.WireBytesCarryPixelsInverted : Prop :=
  ∀ (s : State) (r c i : Nat), s.params.legal = true → i < 8 → c < s.params.wb →
    let P := s.params
    let k := r * P.wb + c
    let a := BitVec.ofNat 32 ((s.latched.lBase.toNat + k) % 2 ^ 32)
    (s.pixelByte .fb r c).getLsbD i = (!(if fbIndex P (8 * c + i) r < P.fbBytes
      then (s.fbByte (fbIndex P (8 * c + i) r)).getLsbD (fbBit (8 * c + i))
      else P.padFb.getLsbD (7 - i))) ∧
    (s.paging = true → s.page * P.pageH ≤ r → r < (s.page + 1) * P.pageH →
      ∃ j, s.rebase (fbIndex P (8 * c + i) r) = some j ∧ j < P.fbBytes ∧
        j = (r - s.page * P.pageH) * P.wb + c ∧
        (s.pixelByte .page r c).getLsbD i = !((s.fbByte j).getLsbD (fbBit (8 * c + i)))) ∧
    (s.pixelByte .bmp r c).getLsbD i = (!(if k < s.latched.lSize.toNat
      then (s.srcByte a).getLsbD (7 - i) else P.padBmp.getLsbD (7 - i))) ∧
    (s.pixelByte .zero r c).getLsbD i = true ∧
    (∀ src, s.txq = none → s.acts[s.pc]? = some (.pix src r c) →
      s.sourceRead = if src = .bmp ∧ k < s.latched.lSize.toNat then some a else none)

/-! ## Source memory -/

/-- R80, R65: a source byte is one of the values it has held since acceptance, its present value where the
host changed nothing; a host write of it is the present value from then on, and while a DRAWBITMAP runs
the value it replaced stays one of them. The host's write is a turn of its own (R9): it writes SRC, records the
replaced value exactly while a DRAWBITMAP runs, and changes nothing else. That all the values held are admitted,
the one at acceptance included, is the model's reading of R80 and U4 (log 5). -/
def Obligations.SourceBytesAreAdmittedValues : Prop :=
  ∀ (s : State) (a b : Word) (v : Byte),
    (s.srcByte a = s.srcNow a ∨ s.srcByte a ∈ s.srcEarlier a) ∧
    (s.srcRaced a = false → s.srcByte a = s.srcNow a) ∧
    (s.writeSrc a v).srcNow b = (if b = a then v else s.srcNow b) ∧
    (s.seqBusy = true → s.latched.lOp = 0x5#4 →
      (s.writeSrc a v).srcEarlier b = (if b = a then s.srcNow a :: s.srcEarlier a else s.srcEarlier b)) ∧
    (∀ ts : List Turn, s.params.legal = true → s.turns = .srcWrite a v :: ts →
      step s = .next (({ s with turns := ts } : State).writeSrc a v) ∧
      step s = .next { s with
        turns := ts
        src := s.src.write a.toNat v
        srcOld := if s.seqBusy = true ∧ s.latched.lOp = 0x5#4 then (a.toNat, s.srcNow a) :: s.srcOld
                  else s.srcOld })

/-! ## Time -/

/-- R149: `Delay(n)` holds for exactly `n` ticks: after the starting step and `m` ticks, the sequencer's
turn still holds while `m < n` and completes the action at `m = n`. `Delay(0)` completes in the step it
starts. -/
def Obligations.DelayCountsExactlyItsTicks : Prop :=
  ∀ (s : State) (n m : Nat) (ts : List Turn), s.params.legal = true → s.pins.rstN = true →
    s.seqBusy = true → s.acts[s.pc]? = some (.delay n) → s.delayOn = false → s.gateWait = false →
    n < 2 ^ 32 → m ≤ n →
    (n = 0 → s.turns = .sequencer :: ts →
      step s = .next { s with turns := ts, dcnt := 0#32, pc := s.pc + 1 }) ∧
    (0 < n → s.turns = .sequencer :: (List.replicate m .tick ++ .sequencer :: ts) →
      ∃ t, runSteps (m + 2) s = .next t ∧ t.turns = ts ∧ t.trace = s.trace ∧
        t.acts = s.acts ∧ t.phase = s.phase ∧ t.gateWait = false ∧
        (m < n → t.pc = s.pc ∧ t.dcnt.toNat = n - m) ∧ (m = n → t.pc = s.pc + 1 ∧ t.dcnt = 0#32))

/-- R147: while the busy line is stuck, an action held in the gate is never done: a lone command, the
command of a burst or the closing wait (R148). However many turns the sequencer and the timer take,
SEQ_BUSY and GATE_WAIT stay 1, PHASE and the cursor stay, no item is emitted and no error is recorded. -/
def Obligations.StuckBusyLineHangs : Prop :=
  ∀ (s : State) (n : Nat) (a : Action), s.params.legal = true → s.pins.rstN = true → s.seqBusy = true →
    s.acts[s.pc]? = some a →
    (a = .waitBusy ∨ ∃ b, a = .cmd b ∨ ∃ burst last, a = .burstCmd burst b last) →
    s.txq = none → s.delayOn = false → s.busyS = true →
    s.gateWait = true → (∀ t ∈ s.turns, t = .sequencer ∨ t = .tick) →
    ∃ k, runSteps n s = .next { s with turns := s.turns.drop n, pollTicks := k }

/-- The actions that are no instruction, on the sequencer's turn. R207: `AwaitPage` holds until PDONE and
then clears it, and `RaisePageReq` sets PAGE_REQ. `SetCursor` writes PAGE_CURSOR and `Preclear` whitens the
page buffer (R206), `SetPhase` writes PHASE (R191), `SetRst` drives `panel_rst_n` (R123), `WaitBusy` goes
through the gate of R141, and `Done` ends the operation (R201). Each that completes advances the cursor, but
for `Done`, and nothing else changes. That the poll is the sequencer's first turn with POLL_MS ticks passed is
the model's reading of R141 (log 10), and that the observed levels of `panel_rst_n` list changes only is the
model's choice (log 17). -/
def Obligations.AwaitPageHoldsUntilPageDone : Prop :=
  ∀ (s : State) (a : Action), s.params.legal = true → s.pins.rstN = true → s.seqBusy = true →
    s.turn = .sequencer → s.acts[s.pc]? = some a →
    let held := ({ s with turns := s.turns.tail } : State)
    let past := ({ held with pc := s.pc + 1 } : State)
    (a = .awaitPage → s.pdone = false → step s = .next held) ∧
    (a = .awaitPage → s.pdone = true → step s = .next { past with pdone := false }) ∧
    (a = .raisePageReq → step s = .next { past with pageReq := true }) ∧
    (∀ v, a = .setCursor v → step s = .next { past with pageCursor := v }) ∧
    (∀ q, a = .setPhase q → step s = .next { past with phase := q }) ∧
    (∀ l, a = .setRst l → step s = .next { past with
      rstOut := l, rstTrace := if s.rstOut = l then s.rstTrace else s.rstTrace ++ [l] }) ∧
    (a = .preclear → ∃ t, step s = .next t ∧ t = { past with fb := t.fb } ∧
      ∀ j, t.fbByte j = if j < s.params.pageBytes then 0x00#8 else s.fbByte j) ∧
    (a = .waitBusy → step s = .next (
      if s.gateWait = true ∧ s.pollTicks < s.params.pollMs then held
      else if s.busyS then { held with gateWait := true, pollTicks := 0 }
      else if s.gateWait then { past with gateWait := false, pollTicks := 0 }
      else past)) ∧
    (a = .done → step s = .next { held with
      phase := .idle, seqBusy := false, gateWait := false, acts := [], pc := 0 })

/-! ## Reset -/

/-- R280, R281: an assertion of `rst_n` in any state, in any hold, leaves every register of R280's table
at its reset value, FB and what was emitted as they were, the busy sample as it was, no item on offer and
no source request; `panel_rst_n` is observed going back to 1 where it was 0. While `rst_n` is low a host
write to any offset, CMD and the ARG registers among them, and the sequencer's turn change nothing but the
turn taken. Held low, the registers stay at those values over every turn but the release: only the levels the
other agents drive move, the busy sample by the busy line alone and SRC by the host alone. The release changes
the pin only. That the sequencer's turn does nothing then is the model's reading of R280 (log 22). The cleared
read data (log 6), the model's own fields (log 7) and the observed levels being changes only (log 17) are the
model's choice. -/
def Obligations.BlockResetLeavesTheResetValues : Prop :=
  ∀ (s : State) (ts : List Turn), s.params.legal = true →
    let atReset := fun u : State => ({ u with
      args := ⟨0#32, 0#32, 0#32, 0#32⟩, acts := [], pc := 0, phase := .idle
      seqBusy := false, pageReq := false, partialLut := false, clip := false, gateWait := false
      pageCursor := 0xFF#8, rotation := 0#2, lastErr := .accepted
      latched := ⟨0#4, false, 0#16, 0#16, 0#16, 0#16, 0#32, 0#32⟩
      pdone := false, dcnt := 0#32, txq := none, rstOut := true
      pins := { u.pins with rstN := false, sReq := none, hRdata := 0#32 }
      pollTicks := 0, delayOn := false, srcOld := [] } : State)
    (s.turns = .rstN false :: ts → step s = .next { atReset s with
      turns := ts
      rstTrace := if s.rstOut then s.rstTrace else s.rstTrace ++ [true] }) ∧
    (s = atReset s → s.turn ≠ .rstN true → ∃ t, step s = .next t ∧
      t = atReset { s with turns := s.turns.tail, pins := t.pins, busyS := t.busyS, src := t.src } ∧
      ((∀ level, s.turn ≠ .busyIn level) → t.busyS = s.busyS) ∧
      ((∀ a v, s.turn ≠ .srcWrite a v) → t.src = s.src)) ∧
    (s.pins.rstN = false → ∀ (addr : BitVec 17) (v : Word), s.turns = .host ⟨true, addr, v⟩ :: ts →
      step s = .next { s with turns := ts }) ∧
    (s.pins.rstN = false → s.turn = .sequencer → step s = .next { s with turns := s.turns.tail }) ∧
    (s.turns = .rstN true :: ts →
      step s = .next { s with turns := ts, pins := { s.pins with rstN := true } })

/-- After reset STATUS reads 0x00FF0000 with the busy line inactive and 0x00FF0008 with it active (R36,
R280), ARG0 to ARG3 read 0, and `panel_rst_n` is 1. In any state the sample follows the line: a level of
`busy_in` makes `busy_s` 1 exactly where it equals BUSY_ACTIVE_LEVEL and changes nothing else, no running
operation either (R30, R140). That the line is inactive in `State.reset` is the model's choice (log 6). -/
def Obligations.StatusAfterReset : Prop :=
  State.reset.status = 0x00FF0000#32 ∧ (State.reset.sampleBusy true).status = 0x00FF0008#32 ∧
  State.reset.args = ⟨0#32, 0#32, 0#32, 0#32⟩ ∧ State.reset.rstOut = true ∧
  ∀ (s : State) (level : Bool) (ts : List Turn), s.params.legal = true → s.turns = .busyIn level :: ts →
    step s = .next { s with turns := ts, busyS := decide (level = s.params.busyActive) }

/-! ## Whole operations -/

/-- With every agent cooperating, a running sequence of actions that never wait for the host or the timer
is run to its end, one step an action: the trace grows by exactly the items of the actions, in order, each
formed from the framebuffer and the source memory as they stand, and nothing runs afterwards (R23, R74,
R201). -/
def Obligations.ASequenceSendsExactlyItsItems : Prop :=
  ∀ (s : State) (as : List Action), Cooperative s → s.seqBusy = true → s.txq = none →
    s.gateWait = false → s.srcOld = [] → s.acts.drop s.pc = as ++ [.done] →
    (∀ a ∈ as, a.emits = true ∨ a = .waitBusy ∨ ∃ p, a = .setPhase p) →
    ∃ t, runSteps (as.length + 1) s = .next t ∧
      t.trace = s.trace ++ as.filterMap s.itemOf ∧
      t.seqBusy = false ∧ t.phase = .idle ∧ t.acts = [] ∧ t.pc = 0 ∧
      t.fb = s.fb ∧ t.src = s.src ∧ t.args = s.args ∧ t.partialLut = s.partialLut ∧
      t.lastErr = s.lastErr ∧ t.rotation = s.rotation ∧ t.rstOut = s.rstOut

/-- A whole ERASE, from the host's write of CMD to SEQ_BUSY = 0 (R208, R191, R196, R198, R200, R213): the
items sent are the power-on phase, 0x24 and one 0xFF for each byte of the panel, the trigger and the
power-off pair, and FB is as it was. -/
def Obligations.EraseWhitensThePanelAndEnds : Prop :=
  ∀ (s : State) (p : Bool), Cooperative s → Inv s → s.seqBusy = false →
    let D := fun v : Byte => (⟨true, v, true, true⟩ : BusItem)
    let C := fun v : Byte => (⟨false, v, true, true⟩ : BusItem)
    let burstItems := fun (c : Byte) (ds : List Byte) =>
      (⟨false, c, true, ds.isEmpty⟩ : BusItem) ::
        ds.mapIdx (fun j v => ⟨true, v, false, decide (j + 1 = ds.length)⟩)
    let P := s.params
    let lut := if p then P.lutPart else P.lutFull
    let top := P.height - 1
    ∃ n t, runSteps n
        { s with turns := [.host ⟨true, 0#17, if p then 0x00000108#32 else 0x00000008#32⟩] } = .next t ∧
      t.seqBusy = false ∧ t.fb = s.fb ∧ t.lastErr = .accepted ∧ t.partialLut = p ∧
      t.trace = s.trace
        ++ [P.panelConfig, P.softStart, P.vcom, P.dummyLine, P.gateTime, P.entryMode].flatMap
            (fun e => burstItems e.cmd e.data)
        ++ [C 0x44#8, D 0x00#8, D (BitVec.ofNat 8 (P.width / 8 - 1)),
            C 0x45#8, D (BitVec.ofNat 8 top), D (BitVec.ofNat 8 (top / 256)), D 0x00#8, D 0x00#8,
            C 0x4E#8, D 0x00#8, C 0x4F#8, D (BitVec.ofNat 8 top), D (BitVec.ofNat 8 (top / 256))]
        ++ burstItems 0x32#8 lut.tail
        ++ [C 0x22#8, D P.pwrOnCtrl, C 0x20#8]
        ++ C 0x24#8 :: List.replicate (P.width / 8 * P.height) (D 0xFF#8)
        ++ [C 0x22#8, D (if p then P.updCtrlPart else P.updCtrlFull), C 0x20#8, C 0xFF#8,
            C 0x22#8, D P.pwrOffCtrl, C 0x20#8]
end

