-- ==== Sys2Proof/Laws/Bus.lean ====
section
/-! SUPPORT. What each shared operation of a step can do, once and for all. -/

namespace Sys2Proof.Machine

/-- Acceptance is a rejection or the request's body on a state with LAST_ERR cleared. -/
theorem State.accept_cases (s : State) (cls : RequestClass) (body : State → State) :
    (∃ c, s.rejection cls = some c ∧ s.accept cls body = s.reject c)
      ∨ (s.rejection cls = none ∧ s.accept cls body = body { s with lastErr := .accepted }) := by
  unfold State.accept
  cases h : s.rejection cls with
  | none => exact .inr ⟨rfl, rfl⟩
  | some c => exact .inl ⟨c, rfl, rfl⟩

/-- A request that is not rejected runs its body. -/
theorem State.accept_of_none {s : State} {cls : RequestClass} (h : s.rejection cls = none)
    (body : State → State) : s.accept cls body = body { s with lastErr := .accepted } := by
  simp [State.accept, h]

/-- A rejected request changes LAST_ERR only. -/
theorem State.accept_of_some {s : State} {cls : RequestClass} {c : ErrCode}
    (h : s.rejection cls = some c) (body : State → State) : s.accept cls body = s.reject c := by
  simp [State.accept, h]

@[simp] theorem State.rejection_nop (s : State) : s.rejection .nop = none := rfl

/-- With nothing running, only PAGEDONE is rejected. -/
theorem State.rejection_idle {s : State} (h : s.seqBusy = false) :
    s.rejection .idleOnly = none ∧ s.rejection .pixel = none
      ∧ s.rejection .pageDone = some .state := by
  simp [State.rejection, h]

/-- While an operation runs with no page request, every class but NOP's is rejected with BUSY. -/
theorem State.rejection_running {s : State} (h : s.seqBusy = true) (hp : s.pageReq = false) :
    s.rejection .idleOnly = some .busy ∧ s.rejection .pixel = some .busy
      ∧ s.rejection .pageDone = some .busy := by
  simp [State.rejection, h, hp]

/-- During a page request, FILL, SETPIXEL and PAGEDONE are accepted and nothing else. -/
theorem State.rejection_request {s : State} (h : s.seqBusy = true) (hp : s.pageReq = true) :
    s.rejection .idleOnly = some .busy ∧ s.rejection .pixel = none
      ∧ s.rejection .pageDone = none := by
  simp [State.rejection, h, hp]

/-- An emission is consumed at once or left on offer. -/
theorem State.emit_cases (s : State) (it : BusItem) :
    (s.pins.txReady = true ∧ s.emit it = s.consume it)
      ∨ (s.pins.txReady = false ∧ s.emit it = { s with txq := some it }) := by
  unfold State.emit
  cases s.pins.txReady <;> simp

/-- The gate passes, or holds with GATE_WAIT set. -/
theorem State.gate_cases (s : State) (k : State → State) :
    (s.gateWait = false ∧ s.busyS = false ∧ s.gate k = k s)
      ∨ (s.gateWait = true ∧ s.busyS = false ∧ s.params.pollMs ≤ s.pollTicks
          ∧ s.gate k = k { s with gateWait := false, pollTicks := 0 })
      ∨ (s.gateWait = false ∧ s.busyS = true
          ∧ s.gate k = { s with gateWait := true, pollTicks := 0 })
      ∨ (s.gateWait = true ∧ s.params.pollMs ≤ s.pollTicks ∧ s.busyS = true
          ∧ s.gate k = { s with pollTicks := 0 })
      ∨ (s.gateWait = true ∧ s.pollTicks < s.params.pollMs ∧ s.gate k = s) := by
  unfold State.gate
  by_cases hg : s.gateWait = true
  · by_cases hp : s.pollTicks < s.params.pollMs
    · simp [hg, hp]
    · cases s.busyS <;> simp [hg, hp] <;> omega
  · cases s.busyS <;> simp [hg]

/-- What one item's step does: nothing on offer and it is formed, or the item on offer waits for the
transport. -/
theorem State.send_cases (s : State) (gated : Bool) (it : BusItem) :
    (s.txq = none ∧ gated = true ∧ s.send gated it = s.gate (·.emit it))
      ∨ (s.txq = none ∧ gated = false ∧ s.send gated it = s.emit it)
      ∨ (∃ o, s.txq = some o ∧ s.pins.txReady = true ∧ s.send gated it = s.consume o)
      ∨ (∃ o, s.txq = some o ∧ s.pins.txReady = false ∧ s.send gated it = s) := by
  unfold State.send
  cases hq : s.txq with
  | none => cases gated <;> simp
  | some o => cases s.pins.txReady <;> simp

/-- The source-port handshake: no read, an acknowledged read, or a hold with `s_req` raised. -/
theorem State.viaSource_cases (s : State) (k : State → State) :
    (s.sourceRead = none ∧ s.viaSource k = k s)
      ∨ (∃ a, s.sourceRead = some a ∧ s.pins.sAck = true
          ∧ s.viaSource k = { k s with pins := { (k s).pins with sReq := none }
                                       draw := if s.srcRaced a then s.draw + 1 else s.draw })
      ∨ (∃ a, s.sourceRead = some a ∧ s.pins.sAck = false
          ∧ s.viaSource k = { s with pins := { s.pins with sReq := some a } }) := by
  unfold State.viaSource
  cases hr : s.sourceRead with
  | none => simp
  | some a => cases hk : s.pins.sAck <;> simp

/-- An item sent with everything open goes straight to the trace. -/
theorem State.send_open {s : State} (hq : s.txq = none) (ht : s.pins.txReady = true) (gated : Bool)
    (hg : gated = true → s.gateWait = false ∧ s.busyS = false) (it : BusItem) :
    s.send gated it = s.consume it := by
  cases gated with
  | false => simp [State.send, hq, State.emit, ht]
  | true =>
    obtain ⟨h1, h2⟩ := hg rfl
    simp [State.send, hq, State.gate, h1, h2, State.emit, ht]

end Sys2Proof.Machine
end

