-- ==== Sys2Proof/Laws/Config.lean ====
section
/-! SUPPORT. What a legal parameter record gives a proof: its geometry as inequalities, its ROMs as
lengths and first bytes, and that the pages make up the panel. -/

namespace Sys2Proof

/-- The geometry of a legal record (R6). -/
theorem Params.legal_geometry {p : Params} (h : p.legal = true) :
    p.width % 8 = 0 ∧ 8 ≤ p.width ∧ p.width ≤ 2048 ∧ 1 ≤ p.height ∧ p.height ≤ 65535 ∧
      1 ≤ p.pageCount ∧ p.pageCount ≤ 127 ∧ p.height % p.pageCount = 0 ∧
      1 ≤ p.fbBytes ∧ p.fbBytes ≤ 65536 ∧ p.pageBytes ≤ p.fbBytes := by
  simp only [Params.legal, Params.legalGeometry, Bool.and_eq_true, beq_iff_eq, decide_eq_true_eq] at h
  tauto

/-- The LUT ROMs of a legal record (R39, R184). -/
theorem Params.legal_luts {p : Params} (h : p.legal = true) :
    p.lutFull.length = 31 ∧ p.lutFull.head? = some 0x32#8 ∧
      p.lutPart.length = 31 ∧ p.lutPart.head? = some 0x32#8 := by
  simp only [Params.legal, Params.legalRoms, Bool.and_eq_true, beq_iff_eq, decide_eq_true_eq] at h
  tauto

/-- The INIT ROM of a legal record holds at most 15 data bytes an entry (R40). -/
theorem Params.legal_init {p : Params} (h : p.legal = true) (k : InitStep) :
    (p.initEntry k).data.length ≤ 15 := by
  simp only [Params.legal, Params.legalRoms, Bool.and_eq_true, List.all_eq_true, decide_eq_true_eq] at h
  exact h.2.2.1.1.2 k (by cases k <;> decide)

/-- The trigger bytes of a legal record differ (R41). -/
theorem Params.legal_triggers {p : Params} (h : p.legal = true) : p.updCtrlFull ≠ p.updCtrlPart := by
  simp only [Params.legal, Params.legalRoms, Bool.and_eq_true, bne_iff_ne] at h
  exact h.2.2.2

/-- The pages of a legal record make up the panel's rows (R6). -/
theorem Params.height_eq_pages {p : Params} (h : p.legal = true) :
    p.height = p.pageCount * p.pageH :=
  (Nat.mul_div_cancel' (Nat.dvd_of_mod_eq_zero (Params.legal_geometry h).2.2.2.2.2.2.2.1)).symm

end Sys2Proof
end

