-- ==== Sys2Proof/Laws/Memory.lean ====
section
/-! SUPPORT. Byte memories: a read after a write, and that every operation keeps the canonical form. -/

namespace Sys2Proof.Machine

/-- A read after a write gives the value written there and the old value elsewhere. -/
theorem Memory.lookup_write (m : Memory) (a b : Nat) (v : Byte) :
    (Memory.write m a v).lookup b = if b = a then some v else Memory.lookup m b := by
  induction m with
  | nil =>
    simp only [Memory.write, Memory.lookup, eq_comm (a := b)]
  | cons c m ih =>
    obtain ⟨k, w⟩ := c
    simp only [Memory.write]
    split
    · simp only [Memory.lookup, eq_comm (a := b)]
    · split
      · subst_vars
        by_cases h : k = b <;> simp [Memory.lookup, h, eq_comm (a := b)]
      · simp only [Memory.lookup, ih]
        by_cases h : b = a
        · subst h; simp [show k ≠ b by omega]
        · simp [h]

/-- Which addresses a write lists. -/
theorem Memory.mem_write {m : Memory} {a : Nat} {v : Byte} {c : Host.Cell}
    (h : c ∈ Memory.write m a v) : c = (a, v) ∨ c ∈ m := by
  induction m with
  | nil => simpa [Memory.write] using h
  | cons d m ih =>
    obtain ⟨k, w⟩ := d
    simp only [Memory.write] at h
    split at h
    · simpa using h
    · split at h
      · rcases List.mem_cons.1 h with h | h
        · exact .inl h
        · exact .inr (List.mem_cons_of_mem _ h)
      · rcases List.mem_cons.1 h with h | h
        · exact .inr (h ▸ List.mem_cons_self)
        · exact (ih h).imp id (List.mem_cons_of_mem _)

/-- A write keeps the canonical form. -/
theorem Memory.write_wf {m : Memory} (h : m.wf) (a : Nat) (v : Byte) : (Memory.write m a v).wf := by
  induction m with
  | nil => simp [Memory.write, Memory.wf]
  | cons c m ih =>
    obtain ⟨k, w⟩ := c
    obtain ⟨hk, hm⟩ := List.pairwise_cons.1 h
    simp only [Memory.write]
    split
    · next hlt =>
      refine List.pairwise_cons.2 ⟨?_, h⟩
      intro d hd
      rcases List.mem_cons.1 hd with rfl | hd
      · exact hlt
      · exact lt_trans hlt (hk d hd)
    · split
      · next he => subst he; exact List.pairwise_cons.2 ⟨hk, hm⟩
      · refine List.pairwise_cons.2 ⟨?_, ih hm⟩
        intro d hd
        rcases Memory.mem_write hd with rfl | hd
        · show k < a
          omega
        · exact hk d hd

/-- A listed prefix that does not hold the address is skipped. -/
theorem Memory.lookup_append_right {m n : Memory} {a : Nat} (h : ∀ c ∈ m, c.1 ≠ a) :
    Memory.lookup (m ++ n) a = Memory.lookup n a := by
  induction m with
  | nil => rfl
  | cons c m ih =>
    obtain ⟨k, w⟩ := c
    have hk : k ≠ a := h (k, w) (by simp)
    simpa [Memory.lookup, hk] using ih (fun d hd => h d (by simp [hd]))

/-- A prefix that holds the address answers for it. -/
theorem Memory.lookup_append_left {m n : Memory} {a : Nat} {v : Byte}
    (h : Memory.lookup m a = some v) : Memory.lookup (m ++ n) a = some v := by
  induction m with
  | nil => simp [Memory.lookup] at h
  | cons c m ih =>
    obtain ⟨k, w⟩ := c
    by_cases hk : k = a
    · simpa [Memory.lookup, hk] using h
    · simp only [List.cons_append, Memory.lookup, hk, if_false] at h ⊢
      exact ih h

/-- Reading below `n` from the cells a fill lists. -/
theorem Memory.lookup_range_map (n a : Nat) (v : Byte) :
    Memory.lookup ((List.range n).map (fun i => (i, v))) a = if a < n then some v else none := by
  induction n with
  | zero => simp [Memory.lookup]
  | succ n ih =>
    rw [List.range_succ, List.map_append]
    by_cases h : a < n
    · rw [Memory.lookup_append_left (v := v) (by rw [ih, if_pos h]), if_pos (by omega)]
    · rw [Memory.lookup_append_right (by simp; omega)]
      simp only [List.map_cons, List.map_nil, Memory.lookup]
      by_cases h' : n = a
      · simp [h']
      · simp [h', show ¬ a < n + 1 by omega]

/-- Dropping the cells below `n` changes nothing from `n` on. -/
theorem Memory.lookup_filter (m : Memory) (n a : Nat) (h : n ≤ a) :
    Memory.lookup (m.filter (fun c => decide (n ≤ c.1))) a = Memory.lookup m a := by
  induction m with
  | nil => rfl
  | cons c m ih =>
    obtain ⟨k, w⟩ := c
    by_cases hk : n ≤ k
    · simp [hk, Memory.lookup, ih]
    · simp [hk, Memory.lookup, ih, show k ≠ a by omega]

/-- A read after a fill. -/
theorem Memory.lookup_fillTo (m : Memory) (n a : Nat) (v : Byte) :
    (Memory.fillTo m n v).lookup a = if a < n then some v else Memory.lookup m a := by
  unfold Memory.fillTo
  by_cases h : a < n
  · rw [Memory.lookup_append_left (v := v) (by rw [Memory.lookup_range_map, if_pos h]), if_pos h]
  · rw [Memory.lookup_append_right (by simp; omega), Memory.lookup_filter _ _ _ (by omega), if_neg h]

/-- Which addresses a fill lists. -/
theorem Memory.mem_fillTo {m : Memory} {n : Nat} {v : Byte} {c : Host.Cell}
    (h : c ∈ Memory.fillTo m n v) : c.1 < n ∨ c ∈ m := by
  rcases List.mem_append.1 h with h | h
  · obtain ⟨i, hi, rfl⟩ := List.mem_map.1 h
    exact .inl (List.mem_range.1 hi)
  · exact .inr (List.mem_filter.1 h).1

/-- A fill keeps the canonical form. -/
theorem Memory.fillTo_wf {m : Memory} (h : m.wf) (n : Nat) (v : Byte) : (Memory.fillTo m n v).wf := by
  unfold Memory.fillTo Memory.wf
  refine List.pairwise_append.2 ⟨?_, List.Pairwise.filter _ h, ?_⟩
  · exact List.Pairwise.map _ (fun _ _ hab => hab) List.pairwise_lt_range
  · intro c hc d hd
    obtain ⟨i, hi, rfl⟩ := List.mem_map.1 hc
    have := List.mem_range.1 hi
    have hd' := of_decide_eq_true (List.mem_filter.1 hd).2
    show i < d.1
    omega

/-! ## The framebuffer -/

/-- A framebuffer read after a one-byte write. -/
theorem State.fbByte_writeFb (s : State) (i j : Nat) (v : Byte) :
    (s.writeFb i v).fbByte j = if j = i then v else s.fbByte j := by
  unfold State.fbByte State.writeFb
  simp only [Memory.lookup_write]
  split <;> rfl

/-- A framebuffer read after a fill. -/
theorem State.fbByte_fillFb (s : State) (n j : Nat) (v : Byte) :
    (s.fillFb n v).fbByte j = if j < n then v else s.fbByte j := by
  unfold State.fbByte State.fillFb
  simp only [Memory.lookup_fillTo]
  split <;> rfl

/-- The reset state's memories have the canonical form. -/
theorem State.reset_memories_wf : State.reset.fb.wf ∧ State.reset.src.wf := by decide

end Sys2Proof.Machine
end

