-- ==== Sys2Proof/Laws/PerInstr.lean ====
section
/-! SUPPORT. A law said of every instruction, one lemma per constructor: its encoding meets its row of
spec/opcode_table.json, and a wire command carries as many data bytes as R100 gives its code. -/

namespace Sys2Proof.Laws.TableMatch

/-- `match` and `mask` of a row, and how many data bytes R100 allows, from the row's own columns. An
INIT_TABLE row has no match: its byte is OPEN (R40). -/
structure Row where
  pattern  : Option Nat
  mask     : Nat
  fewest   : Nat
  most     : Nat

/-- The row of each instruction. -/
def row : Instr → Row
  | .nop          => ⟨some 0x00000000, 0xFFFFFFFF, 0, 0⟩
  | .init         => ⟨some 0x00000001, 0xFFFFFFFF, 0, 0⟩
  | .fill         => ⟨some 0x00000002, 0xFFFFFFFF, 0, 0⟩
  | .setpixel     => ⟨some 0x00000003, 0xFFFFFFFF, 0, 0⟩
  | .update       => ⟨some 0x00000004, 0xFFFFFFFF, 0, 0⟩
  | .drawbitmap _ => ⟨some 0x00000005, 0xFFFFFEFF, 0, 0⟩
  | .updatewindow => ⟨some 0x00000006, 0xFFFFFFFF, 0, 0⟩
  | .drawpaged    => ⟨some 0x00000007, 0xFFFFFFFF, 0, 0⟩
  | .erase _      => ⟨some 0x00000008, 0xFFFFFEFF, 0, 0⟩
  | .setrotation  => ⟨some 0x00000009, 0xFFFFFFFF, 0, 0⟩
  | .pagedone     => ⟨some 0x0000000A, 0xFFFFFFFF, 0, 0⟩
  | .setRamXRange _ _     => ⟨some 0x44, 0xFF, 2, 2⟩
  | .setRamYRange _ _ _ _ => ⟨some 0x45, 0xFF, 4, 4⟩
  | .setRamXPtr _         => ⟨some 0x4E, 0xFF, 1, 1⟩
  | .setRamYPtr _ _       => ⟨some 0x4F, 0xFF, 2, 2⟩
  | .writeLut _           => ⟨some 0x32, 0xFF, 30, 30⟩
  | .writeRam _           => ⟨some 0x24, 0xFF, 1, maxPixels⟩
  | .updateCtrl _         => ⟨some 0x22, 0xFF, 1, 1⟩
  | .activate             => ⟨some 0x20, 0xFF, 0, 0⟩
  | .endUpdate            => ⟨some 0xFF, 0xFF, 0, 0⟩
  | .initPanelConfig _ _  => ⟨none, 0xFF, 0, 15⟩
  | .initSoftStart _ _    => ⟨none, 0xFF, 0, 15⟩
  | .initVcom _ _         => ⟨none, 0xFF, 0, 15⟩
  | .initDummyLine _ _    => ⟨none, 0xFF, 0, 15⟩
  | .initGateTime _ _     => ⟨none, 0xFF, 0, 15⟩
  | .initEntryMode _ _    => ⟨none, 0xFF, 0, 15⟩

/-- A number meets a row's pattern under its mask. -/
def Row.meets (r : Row) (n : Nat) : Prop := ∀ m, r.pattern = some m → n &&& r.mask = m

/-- The encoding of a well-formed instruction meets its row. -/
def Statement (i : Instr) : Prop :=
  i.wellFormed = true →
    match encode i with
    | .cmdWord v     => (row i).meets v.toNat
    | .wire _ c data => (row i).meets c.toNat ∧ (row i).fewest ≤ data.length ∧ data.length ≤ (row i).most

/-- A wire code's row is met by its code. -/
theorem meets_code {m fewest most : Nat} {c : Byte} (h : c.toNat &&& 0xFF = m) :
    Row.meets ⟨some m, 0xFF, fewest, most⟩ c.toNat := by
  rintro _ ⟨⟩
  exact h

theorem nop : Statement .nop := by rintro - _ ⟨⟩; rfl
theorem init : Statement .init := by rintro - _ ⟨⟩; rfl
theorem fill : Statement .fill := by rintro - _ ⟨⟩; rfl
theorem setpixel : Statement .setpixel := by rintro - _ ⟨⟩; rfl
theorem update : Statement .update := by rintro - _ ⟨⟩; rfl
theorem drawbitmap (p : Bool) : Statement (.drawbitmap p) := by rintro - _ ⟨⟩; cases p <;> rfl
theorem updatewindow : Statement .updatewindow := by rintro - _ ⟨⟩; rfl
theorem drawpaged : Statement .drawpaged := by rintro - _ ⟨⟩; rfl
theorem erase (p : Bool) : Statement (.erase p) := by rintro - _ ⟨⟩; cases p <;> rfl
theorem setrotation : Statement .setrotation := by rintro - _ ⟨⟩; rfl
theorem pagedone : Statement .pagedone := by rintro - _ ⟨⟩; rfl

theorem setRamXRange (a b : Byte) : Statement (.setRamXRange a b) :=
  fun _ => ⟨meets_code (by decide), le_rfl, le_rfl⟩
theorem setRamYRange (a b c d : Byte) : Statement (.setRamYRange a b c d) :=
  fun _ => ⟨meets_code (by decide), le_rfl, le_rfl⟩
theorem setRamXPtr (a : Byte) : Statement (.setRamXPtr a) :=
  fun _ => ⟨meets_code (by decide), le_rfl, le_rfl⟩
theorem setRamYPtr (a b : Byte) : Statement (.setRamYPtr a b) :=
  fun _ => ⟨meets_code (by decide), le_rfl, le_rfl⟩
theorem writeLut (lut : List Byte) : Statement (.writeLut lut) := by
  intro h
  have h := beq_iff_eq.1 h
  exact ⟨meets_code (by decide), h.ge, h.le⟩
theorem writeRam (pixels : List Byte) : Statement (.writeRam pixels) := by
  intro h
  simp only [Instr.wellFormed, Bool.and_eq_true, decide_eq_true_eq] at h
  exact ⟨meets_code (by decide), h.1, h.2⟩
theorem updateCtrl (c : Byte) : Statement (.updateCtrl c) :=
  fun _ => ⟨meets_code (by decide), le_rfl, le_rfl⟩
theorem activate : Statement .activate := fun _ => ⟨meets_code (by decide), le_rfl, le_rfl⟩
theorem endUpdate : Statement .endUpdate := fun _ => ⟨meets_code (by decide), le_rfl, le_rfl⟩

theorem initPanelConfig (c : Byte) (d : List Byte) : Statement (.initPanelConfig c d) :=
  fun h => ⟨by rintro _ ⟨⟩, Nat.zero_le _, of_decide_eq_true h⟩
theorem initSoftStart (c : Byte) (d : List Byte) : Statement (.initSoftStart c d) :=
  fun h => ⟨by rintro _ ⟨⟩, Nat.zero_le _, of_decide_eq_true h⟩
theorem initVcom (c : Byte) (d : List Byte) : Statement (.initVcom c d) :=
  fun h => ⟨by rintro _ ⟨⟩, Nat.zero_le _, of_decide_eq_true h⟩
theorem initDummyLine (c : Byte) (d : List Byte) : Statement (.initDummyLine c d) :=
  fun h => ⟨by rintro _ ⟨⟩, Nat.zero_le _, of_decide_eq_true h⟩
theorem initGateTime (c : Byte) (d : List Byte) : Statement (.initGateTime c d) :=
  fun h => ⟨by rintro _ ⟨⟩, Nat.zero_le _, of_decide_eq_true h⟩
theorem initEntryMode (c : Byte) (d : List Byte) : Statement (.initEntryMode c d) :=
  fun h => ⟨by rintro _ ⟨⟩, Nat.zero_le _, of_decide_eq_true h⟩

end Sys2Proof.Laws.TableMatch
end

