-- ==== Sys2Proof/Laws/Run.lean ====
section
/-! SUPPORT. Runs of several steps. -/

namespace Sys2Proof.Machine

@[simp] theorem runSteps_zero (s : State) : runSteps 0 s = .next s := rfl

/-- A run whose first step answers a next state goes on from it. -/
theorem runSteps_of_next {s t : State} (h : step s = .next t) (n : Nat) :
    runSteps (n + 1) s = runSteps n t := by
  rw [runSteps, runWith, h]; rfl

/-- A run of one step is the step. -/
theorem runSteps_one {s t : State} (h : step s = .next t) : runSteps 1 s = .next t := by
  rw [runSteps_of_next h, runSteps_zero]

/-- Two runs in a row are one run. -/
theorem runSteps_add {s t : State} {m : Nat} (h : runSteps m s = .next t) (n : Nat) :
    runSteps (m + n) s = runSteps n t := by
  induction m generalizing s with
  | zero =>
    simp only [runSteps_zero, Host.Outcome.next.injEq] at h
    rw [Nat.zero_add, h]
  | succ m ih =>
    rw [runSteps, runWith] at h
    cases hs : step s with
    | next u =>
      rw [hs] at h
      rw [show m + 1 + n = m + n + 1 by omega, runSteps_of_next hs]
      exact ih h
    | fault r => rw [hs] at h; simp at h
    | refused r => rw [hs] at h; simp at h

/-- A core over `State` runs as `runWith` does. -/
theorem core_run_eq_runWith (f : State → Host.Outcome State Fault Refusal) (r : State) (n : Nat)
    (s : State) :
    Host.Core.run ⟨State, Fault, Refusal, f, r⟩ n s = runWith f n s := by
  induction n generalizing s with
  | zero => rfl
  | succ n ih =>
    rw [runWith]
    simp only [Host.Core.run]
    cases f s with
    | next t => exact ih t
    | fault r => rfl
    | refused r => rfl

/-- `runSteps` is the run of the host's interface. -/
theorem core_run_eq (n : Nat) (s : State) : Sys2Proof.core.run n s = runSteps n s :=
  core_run_eq_runWith step State.reset n s

end Sys2Proof.Machine
end

