-- ==== Sys2Proof/Laws/Sequence.lean ====
section
/-! SUPPORT. The building blocks of the action sequences: what kind of action each macro holds, and how
the counts of a sequence add up over its parts. -/

namespace Sys2Proof.Machine

/-- The item count of a sequence is the sum over its parts (R213). -/
@[simp] theorem itemCount_append (as bs : List Action) :
    itemCount (as ++ bs) = itemCount as + itemCount bs := by
  simp [itemCount, List.countP_append]

/-- Every action of a pixel stream is a `Pix` of its source (R196). -/
theorem isPix_of_mem_pixStream {w : Window} {src : Source} {a : Action} (h : a ∈ pixStream w src) :
    ∃ r c, a = .pix src r c := by
  simp only [pixStream, List.mem_flatMap, List.mem_map] at h
  obtain ⟨r, _, c, _, rfl⟩ := h
  exact ⟨r, c, rfl⟩

/-- Every action of a burst emits an item (R144). -/
theorem emits_of_mem_burst {of : BurstOf} {b : Byte} {d : List Byte} {a : Action}
    (h : a ∈ burst of b d) : a.emits = true := by
  have hd : ∀ ds : List Byte, ∀ x ∈ burstData ds, x.emits = true := by
    intro ds
    induction ds with
    | nil => simp [burstData]
    | cons c cs ih =>
      cases cs with
      | nil => simp [burstData, Action.emits]
      | cons e es =>
        intro x hx
        simp only [burstData, List.mem_cons] at hx
        rcases hx with rfl | hx
        · rfl
        · exact ih x hx
  simp only [burst, List.mem_cons] at h
  rcases h with rfl | h
  · rfl
  · exact hd d a h

/-- An action that neither opens nor belongs to a pixel stream. -/
def Action.isQuiet : Action → Bool
  | .cmd b     => b != 0x24#8
  | .pix _ _ _ => false
  | _          => true

/-- Quiet actions before a sequence leave its stream counts alone (R209). -/
theorem streamCounts_quiet_append {ns : List Action} (as : List Action)
    (h : ∀ a ∈ ns, a.isQuiet = true) : streamCounts (ns ++ as) = streamCounts as := by
  induction ns with
  | nil => rfl
  | cons a ns ih =>
    have h1 := h a List.mem_cons_self
    have h2 := ih (fun b hb => h b (List.mem_cons_of_mem _ hb))
    cases a <;> simp [Action.isQuiet] at h1 <;> simp [streamCounts, h2, h1]

/-- Quiet actions hold no `Pix`. -/
theorem countP_isPix_of_quiet {ns : List Action} (h : ∀ a ∈ ns, a.isQuiet = true) :
    ns.countP Action.isPix = 0 := by
  rw [List.countP_eq_zero]
  intro a ha
  have := h a ha
  cases a <;> simp [Action.isQuiet] at this <;> simp [Action.isPix]

/-- SetRamArea and SetRamPointer are the addressing written out (R168, R169). -/
theorem addressing_eq (p : Params) (w : Window) :
    setRamArea p w ++ setRamPointer p w = addressingActions p w := by
  have h : ∀ n : Nat, BitVec.ofNat 8 (n % 256) = BitVec.ofNat 8 n := fun n => by
    apply BitVec.eq_of_toNat_eq; simp
  simp [setRamArea, setRamPointer, addressingActions, dataAct, lo8, hi8, Window.xs, Window.xe, Window.ys,
    Window.ye, h]

/-- The mode that `P` selects is partial exactly where `P` is set (R210). -/
@[simp] theorem LutMode.isPart_ofP (p : Bool) : (LutMode.ofP p).isPart = p := by cases p <;> rfl

@[simp] theorem LutMode.isPart_full : LutMode.full.isPart = false := rfl
@[simp] theorem LutMode.isPart_part : LutMode.part.isPart = true := rfl

/-- A burst is the one written out (R144). -/
theorem burst_eq (of : BurstOf) (b : Byte) (ds : List Byte) : burst of b ds = burstActions of b ds := by
  have h : ∀ ds : List Byte,
      burstData ds = ds.mapIdx (fun j v => .dat v false (decide (j + 1 = ds.length))) := by
    intro ds
    induction ds with
    | nil => rfl
    | cons c cs ih => cases cs <;> simp_all [burstData, List.mapIdx_cons]
  cases ds <;> simp [burst, burstActions, h]

/-- The power-on phase is the one written out (R191). -/
theorem powerOnPhase_eq (p : Params) (m : LutMode) (w : Window) :
    powerOnPhase p m w = powerOnActions p m.isPart w := by
  cases m <;>
    simp [powerOnPhase, powerOnActions, ← addressing_eq, ← burst_eq, InitStep.all, initBurst, loadLut, lutTable,
      Params.initEntry, controlPair, dataAct, LutMode.isPart]

/-- A transfer is the one written out (R196). -/
theorem transfer_eq (w : Window) (src : Source) : transfer w src = transferActions w src := rfl

/-- The trigger is the one written out (R198). -/
theorem trigger_eq (p : Params) (m : LutMode) : trigger p m = triggerActions p m.isPart := by
  cases m <;> rfl

/-- The power-off phase is the one written out (R200). -/
theorem powerOffPhase_eq (p : Params) : powerOffPhase p = powerOffActions p := rfl

/-- The window pass is the one written out (R205). -/
theorem windowPass_eq (p : Params) (w : Window) (src : Source) :
    windowPass p w src = windowPassActions p w src := by
  simp only [windowPass, windowPassActions, ← addressing_eq, trigger_eq, transfer_eq, LutMode.isPart_part,
    List.append_assoc]

end Sys2Proof.Machine
end

