-- ==== Sys2Proof/Laws/State.lean ====
section
/-! SUPPORT. One lemma per field per named update of the state, each true by `rfl`: a later proof rewrites
with these and never unfolds a record update. -/

namespace Sys2Proof.Machine

variable (s : State)

/-! ## advance -/

@[simp] theorem State.advance_args : (s.advance).args = s.args := rfl
@[simp] theorem State.advance_acts : (s.advance).acts = s.acts := rfl
@[simp] theorem State.advance_pc : (s.advance).pc = s.pc + 1 := rfl
@[simp] theorem State.advance_phase : (s.advance).phase = s.phase := rfl
@[simp] theorem State.advance_seqBusy : (s.advance).seqBusy = s.seqBusy := rfl
@[simp] theorem State.advance_pageReq : (s.advance).pageReq = s.pageReq := rfl
@[simp] theorem State.advance_partialLut : (s.advance).partialLut = s.partialLut := rfl
@[simp] theorem State.advance_clip : (s.advance).clip = s.clip := rfl
@[simp] theorem State.advance_gateWait : (s.advance).gateWait = s.gateWait := rfl
@[simp] theorem State.advance_busyS : (s.advance).busyS = s.busyS := rfl
@[simp] theorem State.advance_pageCursor : (s.advance).pageCursor = s.pageCursor := rfl
@[simp] theorem State.advance_rotation : (s.advance).rotation = s.rotation := rfl
@[simp] theorem State.advance_lastErr : (s.advance).lastErr = s.lastErr := rfl
@[simp] theorem State.advance_latched : (s.advance).latched = s.latched := rfl
@[simp] theorem State.advance_pdone : (s.advance).pdone = s.pdone := rfl
@[simp] theorem State.advance_dcnt : (s.advance).dcnt = s.dcnt := rfl
@[simp] theorem State.advance_txq : (s.advance).txq = s.txq := rfl
@[simp] theorem State.advance_rstOut : (s.advance).rstOut = s.rstOut := rfl
@[simp] theorem State.advance_fb : (s.advance).fb = s.fb := rfl
@[simp] theorem State.advance_params : (s.advance).params = s.params := rfl
@[simp] theorem State.advance_pins : (s.advance).pins = s.pins := rfl
@[simp] theorem State.advance_pollTicks : (s.advance).pollTicks = s.pollTicks := rfl
@[simp] theorem State.advance_delayOn : (s.advance).delayOn = s.delayOn := rfl
@[simp] theorem State.advance_src : (s.advance).src = s.src := rfl
@[simp] theorem State.advance_srcOld : (s.advance).srcOld = s.srcOld := rfl
@[simp] theorem State.advance_powerUp : (s.advance).powerUp = s.powerUp := rfl
@[simp] theorem State.advance_draw : (s.advance).draw = s.draw := rfl
@[simp] theorem State.advance_turns : (s.advance).turns = s.turns := rfl
@[simp] theorem State.advance_trace : (s.advance).trace = s.trace := rfl
@[simp] theorem State.advance_rstTrace : (s.advance).rstTrace = s.rstTrace := rfl

/-! ## popTurn -/

@[simp] theorem State.popTurn_args : (s.popTurn).args = s.args := rfl
@[simp] theorem State.popTurn_acts : (s.popTurn).acts = s.acts := rfl
@[simp] theorem State.popTurn_pc : (s.popTurn).pc = s.pc := rfl
@[simp] theorem State.popTurn_phase : (s.popTurn).phase = s.phase := rfl
@[simp] theorem State.popTurn_seqBusy : (s.popTurn).seqBusy = s.seqBusy := rfl
@[simp] theorem State.popTurn_pageReq : (s.popTurn).pageReq = s.pageReq := rfl
@[simp] theorem State.popTurn_partialLut : (s.popTurn).partialLut = s.partialLut := rfl
@[simp] theorem State.popTurn_clip : (s.popTurn).clip = s.clip := rfl
@[simp] theorem State.popTurn_gateWait : (s.popTurn).gateWait = s.gateWait := rfl
@[simp] theorem State.popTurn_busyS : (s.popTurn).busyS = s.busyS := rfl
@[simp] theorem State.popTurn_pageCursor : (s.popTurn).pageCursor = s.pageCursor := rfl
@[simp] theorem State.popTurn_rotation : (s.popTurn).rotation = s.rotation := rfl
@[simp] theorem State.popTurn_lastErr : (s.popTurn).lastErr = s.lastErr := rfl
@[simp] theorem State.popTurn_latched : (s.popTurn).latched = s.latched := rfl
@[simp] theorem State.popTurn_pdone : (s.popTurn).pdone = s.pdone := rfl
@[simp] theorem State.popTurn_dcnt : (s.popTurn).dcnt = s.dcnt := rfl
@[simp] theorem State.popTurn_txq : (s.popTurn).txq = s.txq := rfl
@[simp] theorem State.popTurn_rstOut : (s.popTurn).rstOut = s.rstOut := rfl
@[simp] theorem State.popTurn_fb : (s.popTurn).fb = s.fb := rfl
@[simp] theorem State.popTurn_params : (s.popTurn).params = s.params := rfl
@[simp] theorem State.popTurn_pins : (s.popTurn).pins = s.pins := rfl
@[simp] theorem State.popTurn_pollTicks : (s.popTurn).pollTicks = s.pollTicks := rfl
@[simp] theorem State.popTurn_delayOn : (s.popTurn).delayOn = s.delayOn := rfl
@[simp] theorem State.popTurn_src : (s.popTurn).src = s.src := rfl
@[simp] theorem State.popTurn_srcOld : (s.popTurn).srcOld = s.srcOld := rfl
@[simp] theorem State.popTurn_powerUp : (s.popTurn).powerUp = s.powerUp := rfl
@[simp] theorem State.popTurn_draw : (s.popTurn).draw = s.draw := rfl
@[simp] theorem State.popTurn_turns : (s.popTurn).turns = s.turns.tail := rfl
@[simp] theorem State.popTurn_trace : (s.popTurn).trace = s.trace := rfl
@[simp] theorem State.popTurn_rstTrace : (s.popTurn).rstTrace = s.rstTrace := rfl

/-! ## reject -/

@[simp] theorem State.reject_args (c : ErrCode) : (s.reject c).args = s.args := rfl
@[simp] theorem State.reject_acts (c : ErrCode) : (s.reject c).acts = s.acts := rfl
@[simp] theorem State.reject_pc (c : ErrCode) : (s.reject c).pc = s.pc := rfl
@[simp] theorem State.reject_phase (c : ErrCode) : (s.reject c).phase = s.phase := rfl
@[simp] theorem State.reject_seqBusy (c : ErrCode) : (s.reject c).seqBusy = s.seqBusy := rfl
@[simp] theorem State.reject_pageReq (c : ErrCode) : (s.reject c).pageReq = s.pageReq := rfl
@[simp] theorem State.reject_partialLut (c : ErrCode) :
    (s.reject c).partialLut = s.partialLut := rfl
@[simp] theorem State.reject_clip (c : ErrCode) : (s.reject c).clip = s.clip := rfl
@[simp] theorem State.reject_gateWait (c : ErrCode) : (s.reject c).gateWait = s.gateWait := rfl
@[simp] theorem State.reject_busyS (c : ErrCode) : (s.reject c).busyS = s.busyS := rfl
@[simp] theorem State.reject_pageCursor (c : ErrCode) :
    (s.reject c).pageCursor = s.pageCursor := rfl
@[simp] theorem State.reject_rotation (c : ErrCode) : (s.reject c).rotation = s.rotation := rfl
@[simp] theorem State.reject_lastErr (c : ErrCode) : (s.reject c).lastErr = c := rfl
@[simp] theorem State.reject_latched (c : ErrCode) : (s.reject c).latched = s.latched := rfl
@[simp] theorem State.reject_pdone (c : ErrCode) : (s.reject c).pdone = s.pdone := rfl
@[simp] theorem State.reject_dcnt (c : ErrCode) : (s.reject c).dcnt = s.dcnt := rfl
@[simp] theorem State.reject_txq (c : ErrCode) : (s.reject c).txq = s.txq := rfl
@[simp] theorem State.reject_rstOut (c : ErrCode) : (s.reject c).rstOut = s.rstOut := rfl
@[simp] theorem State.reject_fb (c : ErrCode) : (s.reject c).fb = s.fb := rfl
@[simp] theorem State.reject_params (c : ErrCode) : (s.reject c).params = s.params := rfl
@[simp] theorem State.reject_pins (c : ErrCode) : (s.reject c).pins = s.pins := rfl
@[simp] theorem State.reject_pollTicks (c : ErrCode) : (s.reject c).pollTicks = s.pollTicks := rfl
@[simp] theorem State.reject_delayOn (c : ErrCode) : (s.reject c).delayOn = s.delayOn := rfl
@[simp] theorem State.reject_src (c : ErrCode) : (s.reject c).src = s.src := rfl
@[simp] theorem State.reject_srcOld (c : ErrCode) : (s.reject c).srcOld = s.srcOld := rfl
@[simp] theorem State.reject_powerUp (c : ErrCode) : (s.reject c).powerUp = s.powerUp := rfl
@[simp] theorem State.reject_draw (c : ErrCode) : (s.reject c).draw = s.draw := rfl
@[simp] theorem State.reject_turns (c : ErrCode) : (s.reject c).turns = s.turns := rfl
@[simp] theorem State.reject_trace (c : ErrCode) : (s.reject c).trace = s.trace := rfl
@[simp] theorem State.reject_rstTrace (c : ErrCode) : (s.reject c).rstTrace = s.rstTrace := rfl

/-! ## setClip -/

@[simp] theorem State.setClip_args (b : Bool) : (s.setClip b).args = s.args := rfl
@[simp] theorem State.setClip_acts (b : Bool) : (s.setClip b).acts = s.acts := rfl
@[simp] theorem State.setClip_pc (b : Bool) : (s.setClip b).pc = s.pc := rfl
@[simp] theorem State.setClip_phase (b : Bool) : (s.setClip b).phase = s.phase := rfl
@[simp] theorem State.setClip_seqBusy (b : Bool) : (s.setClip b).seqBusy = s.seqBusy := rfl
@[simp] theorem State.setClip_pageReq (b : Bool) : (s.setClip b).pageReq = s.pageReq := rfl
@[simp] theorem State.setClip_partialLut (b : Bool) : (s.setClip b).partialLut = s.partialLut := rfl
@[simp] theorem State.setClip_clip (b : Bool) : (s.setClip b).clip = b := rfl
@[simp] theorem State.setClip_gateWait (b : Bool) : (s.setClip b).gateWait = s.gateWait := rfl
@[simp] theorem State.setClip_busyS (b : Bool) : (s.setClip b).busyS = s.busyS := rfl
@[simp] theorem State.setClip_pageCursor (b : Bool) : (s.setClip b).pageCursor = s.pageCursor := rfl
@[simp] theorem State.setClip_rotation (b : Bool) : (s.setClip b).rotation = s.rotation := rfl
@[simp] theorem State.setClip_lastErr (b : Bool) : (s.setClip b).lastErr = s.lastErr := rfl
@[simp] theorem State.setClip_latched (b : Bool) : (s.setClip b).latched = s.latched := rfl
@[simp] theorem State.setClip_pdone (b : Bool) : (s.setClip b).pdone = s.pdone := rfl
@[simp] theorem State.setClip_dcnt (b : Bool) : (s.setClip b).dcnt = s.dcnt := rfl
@[simp] theorem State.setClip_txq (b : Bool) : (s.setClip b).txq = s.txq := rfl
@[simp] theorem State.setClip_rstOut (b : Bool) : (s.setClip b).rstOut = s.rstOut := rfl
@[simp] theorem State.setClip_fb (b : Bool) : (s.setClip b).fb = s.fb := rfl
@[simp] theorem State.setClip_params (b : Bool) : (s.setClip b).params = s.params := rfl
@[simp] theorem State.setClip_pins (b : Bool) : (s.setClip b).pins = s.pins := rfl
@[simp] theorem State.setClip_pollTicks (b : Bool) : (s.setClip b).pollTicks = s.pollTicks := rfl
@[simp] theorem State.setClip_delayOn (b : Bool) : (s.setClip b).delayOn = s.delayOn := rfl
@[simp] theorem State.setClip_src (b : Bool) : (s.setClip b).src = s.src := rfl
@[simp] theorem State.setClip_srcOld (b : Bool) : (s.setClip b).srcOld = s.srcOld := rfl
@[simp] theorem State.setClip_powerUp (b : Bool) : (s.setClip b).powerUp = s.powerUp := rfl
@[simp] theorem State.setClip_draw (b : Bool) : (s.setClip b).draw = s.draw := rfl
@[simp] theorem State.setClip_turns (b : Bool) : (s.setClip b).turns = s.turns := rfl
@[simp] theorem State.setClip_trace (b : Bool) : (s.setClip b).trace = s.trace := rfl
@[simp] theorem State.setClip_rstTrace (b : Bool) : (s.setClip b).rstTrace = s.rstTrace := rfl

/-! ## finish -/

@[simp] theorem State.finish_args : (s.finish).args = s.args := rfl
@[simp] theorem State.finish_acts : (s.finish).acts = [] := rfl
@[simp] theorem State.finish_pc : (s.finish).pc = 0 := rfl
@[simp] theorem State.finish_phase : (s.finish).phase = .idle := rfl
@[simp] theorem State.finish_seqBusy : (s.finish).seqBusy = false := rfl
@[simp] theorem State.finish_pageReq : (s.finish).pageReq = s.pageReq := rfl
@[simp] theorem State.finish_partialLut : (s.finish).partialLut = s.partialLut := rfl
@[simp] theorem State.finish_clip : (s.finish).clip = s.clip := rfl
@[simp] theorem State.finish_gateWait : (s.finish).gateWait = false := rfl
@[simp] theorem State.finish_busyS : (s.finish).busyS = s.busyS := rfl
@[simp] theorem State.finish_pageCursor : (s.finish).pageCursor = s.pageCursor := rfl
@[simp] theorem State.finish_rotation : (s.finish).rotation = s.rotation := rfl
@[simp] theorem State.finish_lastErr : (s.finish).lastErr = s.lastErr := rfl
@[simp] theorem State.finish_latched : (s.finish).latched = s.latched := rfl
@[simp] theorem State.finish_pdone : (s.finish).pdone = s.pdone := rfl
@[simp] theorem State.finish_dcnt : (s.finish).dcnt = s.dcnt := rfl
@[simp] theorem State.finish_txq : (s.finish).txq = s.txq := rfl
@[simp] theorem State.finish_rstOut : (s.finish).rstOut = s.rstOut := rfl
@[simp] theorem State.finish_fb : (s.finish).fb = s.fb := rfl
@[simp] theorem State.finish_params : (s.finish).params = s.params := rfl
@[simp] theorem State.finish_pins : (s.finish).pins = s.pins := rfl
@[simp] theorem State.finish_pollTicks : (s.finish).pollTicks = s.pollTicks := rfl
@[simp] theorem State.finish_delayOn : (s.finish).delayOn = s.delayOn := rfl
@[simp] theorem State.finish_src : (s.finish).src = s.src := rfl
@[simp] theorem State.finish_srcOld : (s.finish).srcOld = s.srcOld := rfl
@[simp] theorem State.finish_powerUp : (s.finish).powerUp = s.powerUp := rfl
@[simp] theorem State.finish_draw : (s.finish).draw = s.draw := rfl
@[simp] theorem State.finish_turns : (s.finish).turns = s.turns := rfl
@[simp] theorem State.finish_trace : (s.finish).trace = s.trace := rfl
@[simp] theorem State.finish_rstTrace : (s.finish).rstTrace = s.rstTrace := rfl

/-! ## driveRst -/

@[simp] theorem State.driveRst_args (l : Bool) : (s.driveRst l).args = s.args := rfl
@[simp] theorem State.driveRst_acts (l : Bool) : (s.driveRst l).acts = s.acts := rfl
@[simp] theorem State.driveRst_pc (l : Bool) : (s.driveRst l).pc = s.pc := rfl
@[simp] theorem State.driveRst_phase (l : Bool) : (s.driveRst l).phase = s.phase := rfl
@[simp] theorem State.driveRst_seqBusy (l : Bool) : (s.driveRst l).seqBusy = s.seqBusy := rfl
@[simp] theorem State.driveRst_pageReq (l : Bool) : (s.driveRst l).pageReq = s.pageReq := rfl
@[simp] theorem State.driveRst_partialLut (l : Bool) :
    (s.driveRst l).partialLut = s.partialLut := rfl
@[simp] theorem State.driveRst_clip (l : Bool) : (s.driveRst l).clip = s.clip := rfl
@[simp] theorem State.driveRst_gateWait (l : Bool) : (s.driveRst l).gateWait = s.gateWait := rfl
@[simp] theorem State.driveRst_busyS (l : Bool) : (s.driveRst l).busyS = s.busyS := rfl
@[simp] theorem State.driveRst_pageCursor (l : Bool) :
    (s.driveRst l).pageCursor = s.pageCursor := rfl
@[simp] theorem State.driveRst_rotation (l : Bool) : (s.driveRst l).rotation = s.rotation := rfl
@[simp] theorem State.driveRst_lastErr (l : Bool) : (s.driveRst l).lastErr = s.lastErr := rfl
@[simp] theorem State.driveRst_latched (l : Bool) : (s.driveRst l).latched = s.latched := rfl
@[simp] theorem State.driveRst_pdone (l : Bool) : (s.driveRst l).pdone = s.pdone := rfl
@[simp] theorem State.driveRst_dcnt (l : Bool) : (s.driveRst l).dcnt = s.dcnt := rfl
@[simp] theorem State.driveRst_txq (l : Bool) : (s.driveRst l).txq = s.txq := rfl
@[simp] theorem State.driveRst_rstOut (l : Bool) : (s.driveRst l).rstOut = l := rfl
@[simp] theorem State.driveRst_fb (l : Bool) : (s.driveRst l).fb = s.fb := rfl
@[simp] theorem State.driveRst_params (l : Bool) : (s.driveRst l).params = s.params := rfl
@[simp] theorem State.driveRst_pins (l : Bool) : (s.driveRst l).pins = s.pins := rfl
@[simp] theorem State.driveRst_pollTicks (l : Bool) : (s.driveRst l).pollTicks = s.pollTicks := rfl
@[simp] theorem State.driveRst_delayOn (l : Bool) : (s.driveRst l).delayOn = s.delayOn := rfl
@[simp] theorem State.driveRst_src (l : Bool) : (s.driveRst l).src = s.src := rfl
@[simp] theorem State.driveRst_srcOld (l : Bool) : (s.driveRst l).srcOld = s.srcOld := rfl
@[simp] theorem State.driveRst_powerUp (l : Bool) : (s.driveRst l).powerUp = s.powerUp := rfl
@[simp] theorem State.driveRst_draw (l : Bool) : (s.driveRst l).draw = s.draw := rfl
@[simp] theorem State.driveRst_turns (l : Bool) : (s.driveRst l).turns = s.turns := rfl
@[simp] theorem State.driveRst_trace (l : Bool) : (s.driveRst l).trace = s.trace := rfl
@[simp] theorem State.driveRst_rstTrace (l : Bool) :
    (s.driveRst l).rstTrace = if s.rstOut == l then s.rstTrace else s.rstTrace ++ [l] := rfl

/-! ## consume -/

@[simp] theorem State.consume_args (it : BusItem) : (s.consume it).args = s.args := rfl
@[simp] theorem State.consume_acts (it : BusItem) : (s.consume it).acts = s.acts := rfl
@[simp] theorem State.consume_pc (it : BusItem) : (s.consume it).pc = s.pc + 1 := rfl
@[simp] theorem State.consume_phase (it : BusItem) : (s.consume it).phase = s.phase := rfl
@[simp] theorem State.consume_seqBusy (it : BusItem) : (s.consume it).seqBusy = s.seqBusy := rfl
@[simp] theorem State.consume_pageReq (it : BusItem) : (s.consume it).pageReq = s.pageReq := rfl
@[simp] theorem State.consume_partialLut (it : BusItem) :
    (s.consume it).partialLut = s.partialLut := rfl
@[simp] theorem State.consume_clip (it : BusItem) : (s.consume it).clip = s.clip := rfl
@[simp] theorem State.consume_gateWait (it : BusItem) : (s.consume it).gateWait = s.gateWait := rfl
@[simp] theorem State.consume_busyS (it : BusItem) : (s.consume it).busyS = s.busyS := rfl
@[simp] theorem State.consume_pageCursor (it : BusItem) :
    (s.consume it).pageCursor = s.pageCursor := rfl
@[simp] theorem State.consume_rotation (it : BusItem) : (s.consume it).rotation = s.rotation := rfl
@[simp] theorem State.consume_lastErr (it : BusItem) : (s.consume it).lastErr = s.lastErr := rfl
@[simp] theorem State.consume_latched (it : BusItem) : (s.consume it).latched = s.latched := rfl
@[simp] theorem State.consume_pdone (it : BusItem) : (s.consume it).pdone = s.pdone := rfl
@[simp] theorem State.consume_dcnt (it : BusItem) : (s.consume it).dcnt = s.dcnt := rfl
@[simp] theorem State.consume_txq (it : BusItem) : (s.consume it).txq = none := rfl
@[simp] theorem State.consume_rstOut (it : BusItem) : (s.consume it).rstOut = s.rstOut := rfl
@[simp] theorem State.consume_fb (it : BusItem) : (s.consume it).fb = s.fb := rfl
@[simp] theorem State.consume_params (it : BusItem) : (s.consume it).params = s.params := rfl
@[simp] theorem State.consume_pins (it : BusItem) : (s.consume it).pins = s.pins := rfl
@[simp] theorem State.consume_pollTicks (it : BusItem) :
    (s.consume it).pollTicks = s.pollTicks := rfl
@[simp] theorem State.consume_delayOn (it : BusItem) : (s.consume it).delayOn = s.delayOn := rfl
@[simp] theorem State.consume_src (it : BusItem) : (s.consume it).src = s.src := rfl
@[simp] theorem State.consume_srcOld (it : BusItem) : (s.consume it).srcOld = s.srcOld := rfl
@[simp] theorem State.consume_powerUp (it : BusItem) : (s.consume it).powerUp = s.powerUp := rfl
@[simp] theorem State.consume_draw (it : BusItem) : (s.consume it).draw = s.draw := rfl
@[simp] theorem State.consume_turns (it : BusItem) : (s.consume it).turns = s.turns := rfl
@[simp] theorem State.consume_trace (it : BusItem) : (s.consume it).trace = s.trace ++ [it] := rfl
@[simp] theorem State.consume_rstTrace (it : BusItem) : (s.consume it).rstTrace = s.rstTrace := rfl

/-! ## tick -/

@[simp] theorem State.tick_args : (s.tick).args = s.args := rfl
@[simp] theorem State.tick_acts : (s.tick).acts = s.acts := rfl
@[simp] theorem State.tick_pc : (s.tick).pc = s.pc := rfl
@[simp] theorem State.tick_phase : (s.tick).phase = s.phase := rfl
@[simp] theorem State.tick_seqBusy : (s.tick).seqBusy = s.seqBusy := rfl
@[simp] theorem State.tick_pageReq : (s.tick).pageReq = s.pageReq := rfl
@[simp] theorem State.tick_partialLut : (s.tick).partialLut = s.partialLut := rfl
@[simp] theorem State.tick_clip : (s.tick).clip = s.clip := rfl
@[simp] theorem State.tick_gateWait : (s.tick).gateWait = s.gateWait := rfl
@[simp] theorem State.tick_busyS : (s.tick).busyS = s.busyS := rfl
@[simp] theorem State.tick_pageCursor : (s.tick).pageCursor = s.pageCursor := rfl
@[simp] theorem State.tick_rotation : (s.tick).rotation = s.rotation := rfl
@[simp] theorem State.tick_lastErr : (s.tick).lastErr = s.lastErr := rfl
@[simp] theorem State.tick_latched : (s.tick).latched = s.latched := rfl
@[simp] theorem State.tick_pdone : (s.tick).pdone = s.pdone := rfl
@[simp] theorem State.tick_dcnt :
    (s.tick).dcnt = if s.delayOn && s.dcnt != 0#32 then s.dcnt - 1#32 else s.dcnt := rfl
@[simp] theorem State.tick_txq : (s.tick).txq = s.txq := rfl
@[simp] theorem State.tick_rstOut : (s.tick).rstOut = s.rstOut := rfl
@[simp] theorem State.tick_fb : (s.tick).fb = s.fb := rfl
@[simp] theorem State.tick_params : (s.tick).params = s.params := rfl
@[simp] theorem State.tick_pins : (s.tick).pins = s.pins := rfl
@[simp] theorem State.tick_pollTicks :
    (s.tick).pollTicks = if s.gateWait then s.pollTicks + 1 else s.pollTicks := rfl
@[simp] theorem State.tick_delayOn : (s.tick).delayOn = s.delayOn := rfl
@[simp] theorem State.tick_src : (s.tick).src = s.src := rfl
@[simp] theorem State.tick_srcOld : (s.tick).srcOld = s.srcOld := rfl
@[simp] theorem State.tick_powerUp : (s.tick).powerUp = s.powerUp := rfl
@[simp] theorem State.tick_draw : (s.tick).draw = s.draw := rfl
@[simp] theorem State.tick_turns : (s.tick).turns = s.turns := rfl
@[simp] theorem State.tick_trace : (s.tick).trace = s.trace := rfl
@[simp] theorem State.tick_rstTrace : (s.tick).rstTrace = s.rstTrace := rfl

/-! ## sampleBusy -/

@[simp] theorem State.sampleBusy_args (l : Bool) : (s.sampleBusy l).args = s.args := rfl
@[simp] theorem State.sampleBusy_acts (l : Bool) : (s.sampleBusy l).acts = s.acts := rfl
@[simp] theorem State.sampleBusy_pc (l : Bool) : (s.sampleBusy l).pc = s.pc := rfl
@[simp] theorem State.sampleBusy_phase (l : Bool) : (s.sampleBusy l).phase = s.phase := rfl
@[simp] theorem State.sampleBusy_seqBusy (l : Bool) : (s.sampleBusy l).seqBusy = s.seqBusy := rfl
@[simp] theorem State.sampleBusy_pageReq (l : Bool) : (s.sampleBusy l).pageReq = s.pageReq := rfl
@[simp] theorem State.sampleBusy_partialLut (l : Bool) :
    (s.sampleBusy l).partialLut = s.partialLut := rfl
@[simp] theorem State.sampleBusy_clip (l : Bool) : (s.sampleBusy l).clip = s.clip := rfl
@[simp] theorem State.sampleBusy_gateWait (l : Bool) : (s.sampleBusy l).gateWait = s.gateWait := rfl
@[simp] theorem State.sampleBusy_busyS (l : Bool) :
    (s.sampleBusy l).busyS = (l == s.params.busyActive) := rfl
@[simp] theorem State.sampleBusy_pageCursor (l : Bool) :
    (s.sampleBusy l).pageCursor = s.pageCursor := rfl
@[simp] theorem State.sampleBusy_rotation (l : Bool) : (s.sampleBusy l).rotation = s.rotation := rfl
@[simp] theorem State.sampleBusy_lastErr (l : Bool) : (s.sampleBusy l).lastErr = s.lastErr := rfl
@[simp] theorem State.sampleBusy_latched (l : Bool) : (s.sampleBusy l).latched = s.latched := rfl
@[simp] theorem State.sampleBusy_pdone (l : Bool) : (s.sampleBusy l).pdone = s.pdone := rfl
@[simp] theorem State.sampleBusy_dcnt (l : Bool) : (s.sampleBusy l).dcnt = s.dcnt := rfl
@[simp] theorem State.sampleBusy_txq (l : Bool) : (s.sampleBusy l).txq = s.txq := rfl
@[simp] theorem State.sampleBusy_rstOut (l : Bool) : (s.sampleBusy l).rstOut = s.rstOut := rfl
@[simp] theorem State.sampleBusy_fb (l : Bool) : (s.sampleBusy l).fb = s.fb := rfl
@[simp] theorem State.sampleBusy_params (l : Bool) : (s.sampleBusy l).params = s.params := rfl
@[simp] theorem State.sampleBusy_pins (l : Bool) : (s.sampleBusy l).pins = s.pins := rfl
@[simp] theorem State.sampleBusy_pollTicks (l : Bool) :
    (s.sampleBusy l).pollTicks = s.pollTicks := rfl
@[simp] theorem State.sampleBusy_delayOn (l : Bool) : (s.sampleBusy l).delayOn = s.delayOn := rfl
@[simp] theorem State.sampleBusy_src (l : Bool) : (s.sampleBusy l).src = s.src := rfl
@[simp] theorem State.sampleBusy_srcOld (l : Bool) : (s.sampleBusy l).srcOld = s.srcOld := rfl
@[simp] theorem State.sampleBusy_powerUp (l : Bool) : (s.sampleBusy l).powerUp = s.powerUp := rfl
@[simp] theorem State.sampleBusy_draw (l : Bool) : (s.sampleBusy l).draw = s.draw := rfl
@[simp] theorem State.sampleBusy_turns (l : Bool) : (s.sampleBusy l).turns = s.turns := rfl
@[simp] theorem State.sampleBusy_trace (l : Bool) : (s.sampleBusy l).trace = s.trace := rfl
@[simp] theorem State.sampleBusy_rstTrace (l : Bool) : (s.sampleBusy l).rstTrace = s.rstTrace := rfl

/-! ## writeFb -/

@[simp] theorem State.writeFb_args (i : Nat) (v : Byte) : (s.writeFb i v).args = s.args := rfl
@[simp] theorem State.writeFb_acts (i : Nat) (v : Byte) : (s.writeFb i v).acts = s.acts := rfl
@[simp] theorem State.writeFb_pc (i : Nat) (v : Byte) : (s.writeFb i v).pc = s.pc := rfl
@[simp] theorem State.writeFb_phase (i : Nat) (v : Byte) : (s.writeFb i v).phase = s.phase := rfl
@[simp] theorem State.writeFb_seqBusy (i : Nat) (v : Byte) :
    (s.writeFb i v).seqBusy = s.seqBusy := rfl
@[simp] theorem State.writeFb_pageReq (i : Nat) (v : Byte) :
    (s.writeFb i v).pageReq = s.pageReq := rfl
@[simp] theorem State.writeFb_partialLut (i : Nat) (v : Byte) :
    (s.writeFb i v).partialLut = s.partialLut := rfl
@[simp] theorem State.writeFb_clip (i : Nat) (v : Byte) : (s.writeFb i v).clip = s.clip := rfl
@[simp] theorem State.writeFb_gateWait (i : Nat) (v : Byte) :
    (s.writeFb i v).gateWait = s.gateWait := rfl
@[simp] theorem State.writeFb_busyS (i : Nat) (v : Byte) : (s.writeFb i v).busyS = s.busyS := rfl
@[simp] theorem State.writeFb_pageCursor (i : Nat) (v : Byte) :
    (s.writeFb i v).pageCursor = s.pageCursor := rfl
@[simp] theorem State.writeFb_rotation (i : Nat) (v : Byte) :
    (s.writeFb i v).rotation = s.rotation := rfl
@[simp] theorem State.writeFb_lastErr (i : Nat) (v : Byte) :
    (s.writeFb i v).lastErr = s.lastErr := rfl
@[simp] theorem State.writeFb_latched (i : Nat) (v : Byte) :
    (s.writeFb i v).latched = s.latched := rfl
@[simp] theorem State.writeFb_pdone (i : Nat) (v : Byte) : (s.writeFb i v).pdone = s.pdone := rfl
@[simp] theorem State.writeFb_dcnt (i : Nat) (v : Byte) : (s.writeFb i v).dcnt = s.dcnt := rfl
@[simp] theorem State.writeFb_txq (i : Nat) (v : Byte) : (s.writeFb i v).txq = s.txq := rfl
@[simp] theorem State.writeFb_rstOut (i : Nat) (v : Byte) : (s.writeFb i v).rstOut = s.rstOut := rfl
@[simp] theorem State.writeFb_fb (i : Nat) (v : Byte) : (s.writeFb i v).fb = s.fb.write i v := rfl
@[simp] theorem State.writeFb_params (i : Nat) (v : Byte) : (s.writeFb i v).params = s.params := rfl
@[simp] theorem State.writeFb_pins (i : Nat) (v : Byte) : (s.writeFb i v).pins = s.pins := rfl
@[simp] theorem State.writeFb_pollTicks (i : Nat) (v : Byte) :
    (s.writeFb i v).pollTicks = s.pollTicks := rfl
@[simp] theorem State.writeFb_delayOn (i : Nat) (v : Byte) :
    (s.writeFb i v).delayOn = s.delayOn := rfl
@[simp] theorem State.writeFb_src (i : Nat) (v : Byte) : (s.writeFb i v).src = s.src := rfl
@[simp] theorem State.writeFb_srcOld (i : Nat) (v : Byte) : (s.writeFb i v).srcOld = s.srcOld := rfl
@[simp] theorem State.writeFb_powerUp (i : Nat) (v : Byte) :
    (s.writeFb i v).powerUp = s.powerUp := rfl
@[simp] theorem State.writeFb_draw (i : Nat) (v : Byte) : (s.writeFb i v).draw = s.draw := rfl
@[simp] theorem State.writeFb_turns (i : Nat) (v : Byte) : (s.writeFb i v).turns = s.turns := rfl
@[simp] theorem State.writeFb_trace (i : Nat) (v : Byte) : (s.writeFb i v).trace = s.trace := rfl
@[simp] theorem State.writeFb_rstTrace (i : Nat) (v : Byte) :
    (s.writeFb i v).rstTrace = s.rstTrace := rfl

/-! ## fillFb -/

@[simp] theorem State.fillFb_args (n : Nat) (v : Byte) : (s.fillFb n v).args = s.args := rfl
@[simp] theorem State.fillFb_acts (n : Nat) (v : Byte) : (s.fillFb n v).acts = s.acts := rfl
@[simp] theorem State.fillFb_pc (n : Nat) (v : Byte) : (s.fillFb n v).pc = s.pc := rfl
@[simp] theorem State.fillFb_phase (n : Nat) (v : Byte) : (s.fillFb n v).phase = s.phase := rfl
@[simp] theorem State.fillFb_seqBusy (n : Nat) (v : Byte) :
    (s.fillFb n v).seqBusy = s.seqBusy := rfl
@[simp] theorem State.fillFb_pageReq (n : Nat) (v : Byte) :
    (s.fillFb n v).pageReq = s.pageReq := rfl
@[simp] theorem State.fillFb_partialLut (n : Nat) (v : Byte) :
    (s.fillFb n v).partialLut = s.partialLut := rfl
@[simp] theorem State.fillFb_clip (n : Nat) (v : Byte) : (s.fillFb n v).clip = s.clip := rfl
@[simp] theorem State.fillFb_gateWait (n : Nat) (v : Byte) :
    (s.fillFb n v).gateWait = s.gateWait := rfl
@[simp] theorem State.fillFb_busyS (n : Nat) (v : Byte) : (s.fillFb n v).busyS = s.busyS := rfl
@[simp] theorem State.fillFb_pageCursor (n : Nat) (v : Byte) :
    (s.fillFb n v).pageCursor = s.pageCursor := rfl
@[simp] theorem State.fillFb_rotation (n : Nat) (v : Byte) :
    (s.fillFb n v).rotation = s.rotation := rfl
@[simp] theorem State.fillFb_lastErr (n : Nat) (v : Byte) :
    (s.fillFb n v).lastErr = s.lastErr := rfl
@[simp] theorem State.fillFb_latched (n : Nat) (v : Byte) :
    (s.fillFb n v).latched = s.latched := rfl
@[simp] theorem State.fillFb_pdone (n : Nat) (v : Byte) : (s.fillFb n v).pdone = s.pdone := rfl
@[simp] theorem State.fillFb_dcnt (n : Nat) (v : Byte) : (s.fillFb n v).dcnt = s.dcnt := rfl
@[simp] theorem State.fillFb_txq (n : Nat) (v : Byte) : (s.fillFb n v).txq = s.txq := rfl
@[simp] theorem State.fillFb_rstOut (n : Nat) (v : Byte) : (s.fillFb n v).rstOut = s.rstOut := rfl
@[simp] theorem State.fillFb_fb (n : Nat) (v : Byte) : (s.fillFb n v).fb = s.fb.fillTo n v := rfl
@[simp] theorem State.fillFb_params (n : Nat) (v : Byte) : (s.fillFb n v).params = s.params := rfl
@[simp] theorem State.fillFb_pins (n : Nat) (v : Byte) : (s.fillFb n v).pins = s.pins := rfl
@[simp] theorem State.fillFb_pollTicks (n : Nat) (v : Byte) :
    (s.fillFb n v).pollTicks = s.pollTicks := rfl
@[simp] theorem State.fillFb_delayOn (n : Nat) (v : Byte) :
    (s.fillFb n v).delayOn = s.delayOn := rfl
@[simp] theorem State.fillFb_src (n : Nat) (v : Byte) : (s.fillFb n v).src = s.src := rfl
@[simp] theorem State.fillFb_srcOld (n : Nat) (v : Byte) : (s.fillFb n v).srcOld = s.srcOld := rfl
@[simp] theorem State.fillFb_powerUp (n : Nat) (v : Byte) :
    (s.fillFb n v).powerUp = s.powerUp := rfl
@[simp] theorem State.fillFb_draw (n : Nat) (v : Byte) : (s.fillFb n v).draw = s.draw := rfl
@[simp] theorem State.fillFb_turns (n : Nat) (v : Byte) : (s.fillFb n v).turns = s.turns := rfl
@[simp] theorem State.fillFb_trace (n : Nat) (v : Byte) : (s.fillFb n v).trace = s.trace := rfl
@[simp] theorem State.fillFb_rstTrace (n : Nat) (v : Byte) :
    (s.fillFb n v).rstTrace = s.rstTrace := rfl

/-! ## writeSrc -/

@[simp] theorem State.writeSrc_args (a : Word) (v : Byte) : (s.writeSrc a v).args = s.args := rfl
@[simp] theorem State.writeSrc_acts (a : Word) (v : Byte) : (s.writeSrc a v).acts = s.acts := rfl
@[simp] theorem State.writeSrc_pc (a : Word) (v : Byte) : (s.writeSrc a v).pc = s.pc := rfl
@[simp] theorem State.writeSrc_phase (a : Word) (v : Byte) : (s.writeSrc a v).phase = s.phase := rfl
@[simp] theorem State.writeSrc_seqBusy (a : Word) (v : Byte) :
    (s.writeSrc a v).seqBusy = s.seqBusy := rfl
@[simp] theorem State.writeSrc_pageReq (a : Word) (v : Byte) :
    (s.writeSrc a v).pageReq = s.pageReq := rfl
@[simp] theorem State.writeSrc_partialLut (a : Word) (v : Byte) :
    (s.writeSrc a v).partialLut = s.partialLut := rfl
@[simp] theorem State.writeSrc_clip (a : Word) (v : Byte) : (s.writeSrc a v).clip = s.clip := rfl
@[simp] theorem State.writeSrc_gateWait (a : Word) (v : Byte) :
    (s.writeSrc a v).gateWait = s.gateWait := rfl
@[simp] theorem State.writeSrc_busyS (a : Word) (v : Byte) : (s.writeSrc a v).busyS = s.busyS := rfl
@[simp] theorem State.writeSrc_pageCursor (a : Word) (v : Byte) :
    (s.writeSrc a v).pageCursor = s.pageCursor := rfl
@[simp] theorem State.writeSrc_rotation (a : Word) (v : Byte) :
    (s.writeSrc a v).rotation = s.rotation := rfl
@[simp] theorem State.writeSrc_lastErr (a : Word) (v : Byte) :
    (s.writeSrc a v).lastErr = s.lastErr := rfl
@[simp] theorem State.writeSrc_latched (a : Word) (v : Byte) :
    (s.writeSrc a v).latched = s.latched := rfl
@[simp] theorem State.writeSrc_pdone (a : Word) (v : Byte) : (s.writeSrc a v).pdone = s.pdone := rfl
@[simp] theorem State.writeSrc_dcnt (a : Word) (v : Byte) : (s.writeSrc a v).dcnt = s.dcnt := rfl
@[simp] theorem State.writeSrc_txq (a : Word) (v : Byte) : (s.writeSrc a v).txq = s.txq := rfl
@[simp] theorem State.writeSrc_rstOut (a : Word) (v : Byte) :
    (s.writeSrc a v).rstOut = s.rstOut := rfl
@[simp] theorem State.writeSrc_fb (a : Word) (v : Byte) : (s.writeSrc a v).fb = s.fb := rfl
@[simp] theorem State.writeSrc_params (a : Word) (v : Byte) :
    (s.writeSrc a v).params = s.params := rfl
@[simp] theorem State.writeSrc_pins (a : Word) (v : Byte) : (s.writeSrc a v).pins = s.pins := rfl
@[simp] theorem State.writeSrc_pollTicks (a : Word) (v : Byte) :
    (s.writeSrc a v).pollTicks = s.pollTicks := rfl
@[simp] theorem State.writeSrc_delayOn (a : Word) (v : Byte) :
    (s.writeSrc a v).delayOn = s.delayOn := rfl
@[simp] theorem State.writeSrc_src (a : Word) (v : Byte) :
    (s.writeSrc a v).src = s.src.write a.toNat v := rfl
@[simp] theorem State.writeSrc_srcOld (a : Word) (v : Byte) :
    (s.writeSrc a v).srcOld = if s.seqBusy && s.latched.lOp == 5#4 then (a.toNat, s.srcNow a) :: s.srcOld else s.srcOld := rfl
@[simp] theorem State.writeSrc_powerUp (a : Word) (v : Byte) :
    (s.writeSrc a v).powerUp = s.powerUp := rfl
@[simp] theorem State.writeSrc_draw (a : Word) (v : Byte) : (s.writeSrc a v).draw = s.draw := rfl
@[simp] theorem State.writeSrc_turns (a : Word) (v : Byte) : (s.writeSrc a v).turns = s.turns := rfl
@[simp] theorem State.writeSrc_trace (a : Word) (v : Byte) : (s.writeSrc a v).trace = s.trace := rfl
@[simp] theorem State.writeSrc_rstTrace (a : Word) (v : Byte) :
    (s.writeSrc a v).rstTrace = s.rstTrace := rfl

/-! ## latchOperands -/

@[simp] theorem State.latchOperands_args (op : BitVec 4) (p : Bool) :
    (s.latchOperands op p).args = s.args := rfl
@[simp] theorem State.latchOperands_acts (op : BitVec 4) (p : Bool) :
    (s.latchOperands op p).acts = s.acts := rfl
@[simp] theorem State.latchOperands_pc (op : BitVec 4) (p : Bool) :
    (s.latchOperands op p).pc = s.pc := rfl
@[simp] theorem State.latchOperands_phase (op : BitVec 4) (p : Bool) :
    (s.latchOperands op p).phase = s.phase := rfl
@[simp] theorem State.latchOperands_seqBusy (op : BitVec 4) (p : Bool) :
    (s.latchOperands op p).seqBusy = s.seqBusy := rfl
@[simp] theorem State.latchOperands_pageReq (op : BitVec 4) (p : Bool) :
    (s.latchOperands op p).pageReq = s.pageReq := rfl
@[simp] theorem State.latchOperands_partialLut (op : BitVec 4) (p : Bool) :
    (s.latchOperands op p).partialLut = s.partialLut := rfl
@[simp] theorem State.latchOperands_clip (op : BitVec 4) (p : Bool) :
    (s.latchOperands op p).clip = s.clip := rfl
@[simp] theorem State.latchOperands_gateWait (op : BitVec 4) (p : Bool) :
    (s.latchOperands op p).gateWait = s.gateWait := rfl
@[simp] theorem State.latchOperands_busyS (op : BitVec 4) (p : Bool) :
    (s.latchOperands op p).busyS = s.busyS := rfl
@[simp] theorem State.latchOperands_pageCursor (op : BitVec 4) (p : Bool) :
    (s.latchOperands op p).pageCursor = s.pageCursor := rfl
@[simp] theorem State.latchOperands_rotation (op : BitVec 4) (p : Bool) :
    (s.latchOperands op p).rotation = s.rotation := rfl
@[simp] theorem State.latchOperands_lastErr (op : BitVec 4) (p : Bool) :
    (s.latchOperands op p).lastErr = s.lastErr := rfl
@[simp] theorem State.latchOperands_latched (op : BitVec 4) (p : Bool) :
    (s.latchOperands op p).latched = ⟨op, p, s.args.arg0.extractLsb' 0 16, s.args.arg0.extractLsb' 16 16, s.args.arg1.extractLsb' 0 16, s.args.arg1.extractLsb' 16 16, s.args.arg2, s.args.arg3⟩ := rfl
@[simp] theorem State.latchOperands_pdone (op : BitVec 4) (p : Bool) :
    (s.latchOperands op p).pdone = s.pdone := rfl
@[simp] theorem State.latchOperands_dcnt (op : BitVec 4) (p : Bool) :
    (s.latchOperands op p).dcnt = s.dcnt := rfl
@[simp] theorem State.latchOperands_txq (op : BitVec 4) (p : Bool) :
    (s.latchOperands op p).txq = s.txq := rfl
@[simp] theorem State.latchOperands_rstOut (op : BitVec 4) (p : Bool) :
    (s.latchOperands op p).rstOut = s.rstOut := rfl
@[simp] theorem State.latchOperands_fb (op : BitVec 4) (p : Bool) :
    (s.latchOperands op p).fb = s.fb := rfl
@[simp] theorem State.latchOperands_params (op : BitVec 4) (p : Bool) :
    (s.latchOperands op p).params = s.params := rfl
@[simp] theorem State.latchOperands_pins (op : BitVec 4) (p : Bool) :
    (s.latchOperands op p).pins = s.pins := rfl
@[simp] theorem State.latchOperands_pollTicks (op : BitVec 4) (p : Bool) :
    (s.latchOperands op p).pollTicks = s.pollTicks := rfl
@[simp] theorem State.latchOperands_delayOn (op : BitVec 4) (p : Bool) :
    (s.latchOperands op p).delayOn = s.delayOn := rfl
@[simp] theorem State.latchOperands_src (op : BitVec 4) (p : Bool) :
    (s.latchOperands op p).src = s.src := rfl
@[simp] theorem State.latchOperands_srcOld (op : BitVec 4) (p : Bool) :
    (s.latchOperands op p).srcOld = s.srcOld := rfl
@[simp] theorem State.latchOperands_powerUp (op : BitVec 4) (p : Bool) :
    (s.latchOperands op p).powerUp = s.powerUp := rfl
@[simp] theorem State.latchOperands_draw (op : BitVec 4) (p : Bool) :
    (s.latchOperands op p).draw = s.draw := rfl
@[simp] theorem State.latchOperands_turns (op : BitVec 4) (p : Bool) :
    (s.latchOperands op p).turns = s.turns := rfl
@[simp] theorem State.latchOperands_trace (op : BitVec 4) (p : Bool) :
    (s.latchOperands op p).trace = s.trace := rfl
@[simp] theorem State.latchOperands_rstTrace (op : BitVec 4) (p : Bool) :
    (s.latchOperands op p).rstTrace = s.rstTrace := rfl

/-! ## startOperation -/

@[simp] theorem State.startOperation_args (op : BitVec 4) (p : Bool) (m : LutMode) :
    (s.startOperation op p m).args = s.args := rfl
@[simp] theorem State.startOperation_acts (op : BitVec 4) (p : Bool) (m : LutMode) :
    (s.startOperation op p m).acts = expand s.params (s.latchOperands op p).latched := rfl
@[simp] theorem State.startOperation_pc (op : BitVec 4) (p : Bool) (m : LutMode) :
    (s.startOperation op p m).pc = 0 := rfl
@[simp] theorem State.startOperation_phase (op : BitVec 4) (p : Bool) (m : LutMode) :
    (s.startOperation op p m).phase = s.phase := rfl
@[simp] theorem State.startOperation_seqBusy (op : BitVec 4) (p : Bool) (m : LutMode) :
    (s.startOperation op p m).seqBusy = true := rfl
@[simp] theorem State.startOperation_pageReq (op : BitVec 4) (p : Bool) (m : LutMode) :
    (s.startOperation op p m).pageReq = s.pageReq := rfl
@[simp] theorem State.startOperation_partialLut (op : BitVec 4) (p : Bool) (m : LutMode) :
    (s.startOperation op p m).partialLut = m.isPart := rfl
@[simp] theorem State.startOperation_clip (op : BitVec 4) (p : Bool) (m : LutMode) :
    (s.startOperation op p m).clip = s.clip := rfl
@[simp] theorem State.startOperation_gateWait (op : BitVec 4) (p : Bool) (m : LutMode) :
    (s.startOperation op p m).gateWait = s.gateWait := rfl
@[simp] theorem State.startOperation_busyS (op : BitVec 4) (p : Bool) (m : LutMode) :
    (s.startOperation op p m).busyS = s.busyS := rfl
@[simp] theorem State.startOperation_pageCursor (op : BitVec 4) (p : Bool) (m : LutMode) :
    (s.startOperation op p m).pageCursor = s.pageCursor := rfl
@[simp] theorem State.startOperation_rotation (op : BitVec 4) (p : Bool) (m : LutMode) :
    (s.startOperation op p m).rotation = s.rotation := rfl
@[simp] theorem State.startOperation_lastErr (op : BitVec 4) (p : Bool) (m : LutMode) :
    (s.startOperation op p m).lastErr = s.lastErr := rfl
@[simp] theorem State.startOperation_latched (op : BitVec 4) (p : Bool) (m : LutMode) :
    (s.startOperation op p m).latched = (s.latchOperands op p).latched := rfl
@[simp] theorem State.startOperation_pdone (op : BitVec 4) (p : Bool) (m : LutMode) :
    (s.startOperation op p m).pdone = s.pdone := rfl
@[simp] theorem State.startOperation_dcnt (op : BitVec 4) (p : Bool) (m : LutMode) :
    (s.startOperation op p m).dcnt = s.dcnt := rfl
@[simp] theorem State.startOperation_txq (op : BitVec 4) (p : Bool) (m : LutMode) :
    (s.startOperation op p m).txq = s.txq := rfl
@[simp] theorem State.startOperation_rstOut (op : BitVec 4) (p : Bool) (m : LutMode) :
    (s.startOperation op p m).rstOut = s.rstOut := rfl
@[simp] theorem State.startOperation_fb (op : BitVec 4) (p : Bool) (m : LutMode) :
    (s.startOperation op p m).fb = s.fb := rfl
@[simp] theorem State.startOperation_params (op : BitVec 4) (p : Bool) (m : LutMode) :
    (s.startOperation op p m).params = s.params := rfl
@[simp] theorem State.startOperation_pins (op : BitVec 4) (p : Bool) (m : LutMode) :
    (s.startOperation op p m).pins = s.pins := rfl
@[simp] theorem State.startOperation_pollTicks (op : BitVec 4) (p : Bool) (m : LutMode) :
    (s.startOperation op p m).pollTicks = s.pollTicks := rfl
@[simp] theorem State.startOperation_delayOn (op : BitVec 4) (p : Bool) (m : LutMode) :
    (s.startOperation op p m).delayOn = s.delayOn := rfl
@[simp] theorem State.startOperation_src (op : BitVec 4) (p : Bool) (m : LutMode) :
    (s.startOperation op p m).src = s.src := rfl
@[simp] theorem State.startOperation_srcOld (op : BitVec 4) (p : Bool) (m : LutMode) :
    (s.startOperation op p m).srcOld = [] := rfl
@[simp] theorem State.startOperation_powerUp (op : BitVec 4) (p : Bool) (m : LutMode) :
    (s.startOperation op p m).powerUp = s.powerUp := rfl
@[simp] theorem State.startOperation_draw (op : BitVec 4) (p : Bool) (m : LutMode) :
    (s.startOperation op p m).draw = s.draw := rfl
@[simp] theorem State.startOperation_turns (op : BitVec 4) (p : Bool) (m : LutMode) :
    (s.startOperation op p m).turns = s.turns := rfl
@[simp] theorem State.startOperation_trace (op : BitVec 4) (p : Bool) (m : LutMode) :
    (s.startOperation op p m).trace = s.trace := rfl
@[simp] theorem State.startOperation_rstTrace (op : BitVec 4) (p : Bool) (m : LutMode) :
    (s.startOperation op p m).rstTrace = s.rstTrace := rfl

/-! ## blockReset -/

@[simp] theorem State.blockReset_args : (s.blockReset).args = ⟨0#32, 0#32, 0#32, 0#32⟩ := rfl
@[simp] theorem State.blockReset_acts : (s.blockReset).acts = [] := rfl
@[simp] theorem State.blockReset_pc : (s.blockReset).pc = 0 := rfl
@[simp] theorem State.blockReset_phase : (s.blockReset).phase = .idle := rfl
@[simp] theorem State.blockReset_seqBusy : (s.blockReset).seqBusy = false := rfl
@[simp] theorem State.blockReset_pageReq : (s.blockReset).pageReq = false := rfl
@[simp] theorem State.blockReset_partialLut : (s.blockReset).partialLut = false := rfl
@[simp] theorem State.blockReset_clip : (s.blockReset).clip = false := rfl
@[simp] theorem State.blockReset_gateWait : (s.blockReset).gateWait = false := rfl
@[simp] theorem State.blockReset_busyS : (s.blockReset).busyS = s.busyS := rfl
@[simp] theorem State.blockReset_pageCursor : (s.blockReset).pageCursor = 0xFF#8 := rfl
@[simp] theorem State.blockReset_rotation : (s.blockReset).rotation = 0#2 := rfl
@[simp] theorem State.blockReset_lastErr : (s.blockReset).lastErr = .accepted := rfl
@[simp] theorem State.blockReset_latched :
    (s.blockReset).latched = ⟨0#4, false, 0#16, 0#16, 0#16, 0#16, 0#32, 0#32⟩ := rfl
@[simp] theorem State.blockReset_pdone : (s.blockReset).pdone = false := rfl
@[simp] theorem State.blockReset_dcnt : (s.blockReset).dcnt = 0#32 := rfl
@[simp] theorem State.blockReset_txq : (s.blockReset).txq = none := rfl
@[simp] theorem State.blockReset_rstOut : (s.blockReset).rstOut = true := rfl
@[simp] theorem State.blockReset_fb : (s.blockReset).fb = s.fb := rfl
@[simp] theorem State.blockReset_params : (s.blockReset).params = s.params := rfl
@[simp] theorem State.blockReset_pins :
    (s.blockReset).pins = { s.pins with sReq := none, hRdata := 0#32 } := rfl
@[simp] theorem State.blockReset_pollTicks : (s.blockReset).pollTicks = 0 := rfl
@[simp] theorem State.blockReset_delayOn : (s.blockReset).delayOn = false := rfl
@[simp] theorem State.blockReset_src : (s.blockReset).src = s.src := rfl
@[simp] theorem State.blockReset_srcOld : (s.blockReset).srcOld = [] := rfl
@[simp] theorem State.blockReset_powerUp : (s.blockReset).powerUp = s.powerUp := rfl
@[simp] theorem State.blockReset_draw : (s.blockReset).draw = s.draw := rfl
@[simp] theorem State.blockReset_turns : (s.blockReset).turns = s.turns := rfl
@[simp] theorem State.blockReset_trace : (s.blockReset).trace = s.trace := rfl
@[simp] theorem State.blockReset_rstTrace :
    (s.blockReset).rstTrace = if s.rstOut == true then s.rstTrace else s.rstTrace ++ [true] := rfl

end Sys2Proof.Machine
end

