-- ==== Sys2Proof/Laws/Wire.lean ====
section
/-! SUPPORT. Where the cursor stands in a wire command: the decomposition of the action list that
`itemIndex` and `wireEncoded` stand for, in both directions. -/

namespace Sys2Proof.Machine

/-- The cursor `k` data actions after a command action stands at item `k`. -/
theorem State.itemIndex_eq {s : State} {pre ds rest : List Action} {c : Action}
    (h : s.acts = pre ++ c :: (ds ++ rest)) (hc : c.isData = false) (hd : ∀ a ∈ ds, a.isData = true)
    {k : Nat} (hk : k ≤ ds.length) (hp : s.pc = pre.length + k) : s.itemIndex = k := by
  have ht : s.acts.take (s.pc + 1) = pre ++ c :: ds.take k := by
    rw [h, hp, List.take_append, List.take_of_length_le (by omega)]
    simp only [show pre.length + k + 1 - pre.length = k + 1 by omega, List.take_succ_cons]
    rw [List.take_append_of_le_length hk]
  unfold State.itemIndex
  rw [ht, List.reverse_append, List.reverse_cons, List.append_assoc,
    List.takeWhile_append_of_pos (by
      intro a ha
      exact hd a (List.mem_of_mem_take (List.mem_reverse.1 ha)))]
  simp [hc, hk]

/-- The data actions of the command action in a decomposed list. -/
theorem dataActions_eq {acts pre ds rest : List Action} {c : Action}
    (h : acts = pre ++ c :: (ds ++ rest)) (hd : ∀ a ∈ ds, a.isData = true)
    (hr : ∀ a, rest.head? = some a → a.isData = false) : dataActions acts pre.length = ds := by
  subst h
  unfold dataActions
  rw [List.drop_append]
  simp only [show pre.length + 1 - pre.length = 1 by omega, List.drop_succ_cons, List.drop_zero]
  rw [List.drop_of_length_le (by omega), List.nil_append, List.takeWhile_append_of_pos hd]
  cases rest with
  | nil => simp
  | cons a as => simp [hr a rfl]

/-- What `itemIndex` counts: the data actions that end at the cursor. -/
theorem State.itemIndex_le (s : State) : s.itemIndex ≤ s.pc + 1 := by
  unfold State.itemIndex
  refine (List.takeWhile_sublist _).length_le.trans ?_
  simp

/-- Where the action `itemIndex` steps back from the cursor is a command action, the list decomposes
around it, and the cursor stands that many data actions after it. -/
theorem State.wire_decompose {s : State} {c : Action} (h : s.acts[s.pc - s.itemIndex]? = some c)
    (hc : c.isData = false) :
    ∃ pre ds rest, s.acts = pre ++ c :: (ds ++ rest) ∧ (∀ a ∈ ds, a.isData = true) ∧
      (∀ a, rest.head? = some a → a.isData = false) ∧ pre.length = s.pc - s.itemIndex ∧
      s.itemIndex ≤ s.pc ∧ s.itemIndex ≤ ds.length := by
  set k := s.itemIndex with hk
  set L := s.acts.take (s.pc + 1) with hL
  have hkL : k = (L.reverse.takeWhile Action.isData).length := rfl
  have hmem : ∀ j < k, ∃ a, L[L.length - 1 - j]? = some a ∧ a.isData = true := by
    intro j hj
    have hjL : j < L.length := by
      have := (List.takeWhile_sublist Action.isData (l := L.reverse)).length_le
      simp only [List.length_reverse] at this; omega
    have h1 : (L.reverse.takeWhile Action.isData)[j]? = L.reverse[j]? := by
      obtain ⟨t, ht⟩ := List.takeWhile_prefix Action.isData (l := L.reverse)
      conv_rhs => rw [← ht]
      rw [List.getElem?_append_left (by omega)]
    rw [List.getElem?_reverse hjL] at h1
    have h2 : j < (L.reverse.takeWhile Action.isData).length := by omega
    refine ⟨(L.reverse.takeWhile Action.isData)[j], ?_, ?_⟩
    · rw [← h1]; exact List.getElem?_eq_getElem h2
    · exact List.mem_takeWhile_imp (List.getElem_mem h2)
  have hlen : L.length = min (s.pc + 1) s.acts.length := List.length_take
  have hlt : s.pc - k < s.acts.length := (List.getElem?_eq_some_iff.1 h).1
  have hle := s.itemIndex_le
  have hpc : s.pc < s.acts.length ∧ k ≤ s.pc := by
    by_contra hcon
    have hk0 : 0 < k := by
      by_contra h0
      omega
    have hkl : k ≤ L.length := by
      have := (List.takeWhile_sublist Action.isData (l := L.reverse)).length_le
      simp only [List.length_reverse] at this; omega
    obtain ⟨a, ha, had⟩ := hmem (L.length - 1 - (s.pc - k)) (by omega)
    have hi : L.length - 1 - (L.length - 1 - (s.pc - k)) = s.pc - k := by omega
    rw [hi, hL, List.getElem?_take_of_lt (by omega), h] at ha
    simp only [Option.some.injEq] at ha
    rw [ha] at hc; simp [had] at hc
  obtain ⟨hpc, hkp⟩ := hpc
  refine ⟨s.acts.take (s.pc - k), (s.acts.drop (s.pc - k + 1)).takeWhile Action.isData,
    (s.acts.drop (s.pc - k + 1)).dropWhile Action.isData, ?_, ?_, ?_, ?_, hkp, ?_⟩
  · rw [List.takeWhile_append_dropWhile]
    conv_lhs => rw [← List.take_append_drop (s.pc - k) s.acts]
    congr 1
    rw [List.drop_eq_getElem_cons hlt]
    congr 1
    exact (List.getElem?_eq_some_iff.1 h).2
  · exact fun a ha => List.mem_takeWhile_imp ha
  · intro a ha
    cases hd : (s.acts.drop (s.pc - k + 1)).dropWhile Action.isData with
    | nil => rw [hd] at ha; simp at ha
    | cons b bs =>
      have h0 := List.head_dropWhile_not Action.isData
        (l := s.acts.drop (s.pc - k + 1)) (by rw [hd]; simp)
      simp only [hd, List.head_cons] at h0
      rw [hd] at ha
      simp only [List.head?_cons, Option.some.injEq] at ha
      rw [← ha]; exact h0
  · rw [List.length_take]; omega
  · have hpre : (s.acts.drop (s.pc - k + 1)).take k <+: s.acts.drop (s.pc - k + 1) :=
      List.take_prefix _ _
    have hall : ∀ a ∈ (s.acts.drop (s.pc - k + 1)).take k, a.isData = true := by
      intro a ha
      obtain ⟨i, hi, rfl⟩ := List.getElem_of_mem ha
      have hi' : i < k := by simp only [List.length_take] at hi; omega
      obtain ⟨b, hb, hbd⟩ := hmem (k - 1 - i) (by omega)
      rw [hL, List.getElem?_take_of_lt (by rw [← hL]; omega)] at hb
      have hidx : L.length - 1 - (k - 1 - i) = s.pc - k + 1 + i := by omega
      rw [← hL, hidx] at hb
      have : ((s.acts.drop (s.pc - k + 1)).take k)[i] = b := by
        simp only [List.getElem_take, List.getElem_drop]
        exact (List.getElem?_eq_some_iff.1 hb).2
      rw [this]; exact hbd
    have h3 : ((s.acts.drop (s.pc - k + 1)).take k).length = k := by
      simp only [List.length_take, List.length_drop]; omega
    obtain ⟨t, ht⟩ := hpre
    calc k = ((s.acts.drop (s.pc - k + 1)).take k).length := h3.symm
      _ ≤ _ := by
        conv_rhs => rw [← ht]
        rw [List.takeWhile_append_of_pos hall]
        simp

/-- In a decomposed list the action at the cursor is the command action or one of its data actions. -/
theorem action_at_cursor {acts pre ds rest : List Action} {c : Action}
    (h : acts = pre ++ c :: (ds ++ rest)) (k : Nat) (hk : k ≤ ds.length) :
    acts[pre.length + k]? = (c :: ds)[k]? := by
  subst h
  rw [List.getElem?_append_right (by omega), show pre.length + k - pre.length = k by omega]
  cases k with
  | zero => rfl
  | succ j =>
    simp only [List.getElem?_cons_succ]
    rw [List.getElem?_append_left (by omega)]

/-- Where the cursor stands at a command item, or beyond the actions, no SRC byte is to be read. -/
theorem State.sourceRead_of_itemIndex_zero {s : State} (h : s.itemIndex = 0) : s.sourceRead = none := by
  unfold State.sourceRead
  split
  · rename_i r c ha
    obtain ⟨hlt, hget⟩ := List.getElem?_eq_some_iff.1 ha
    have ht : s.acts.take (s.pc + 1) = s.acts.take s.pc ++ [.pix .bmp r c] := by
      rw [List.take_succ_eq_append_getElem hlt, hget]
    rw [State.itemIndex, ht] at h
    simp [Action.isData] at h
  · rfl

/-- A burst's data actions are data actions. -/
theorem burstData_isData (d : List Byte) : ∀ a ∈ burstData d, a.isData = true := by
  induction d with
  | nil => simp [burstData]
  | cons b bs ih =>
    cases bs with
    | nil => simp [burstData, Action.isData]
    | cons c cs =>
      simp only [burstData, List.mem_cons]
      rintro a (rfl | h)
      · rfl
      · exact ih a h

/-- A burst has one data action a byte. -/
theorem burstData_length (d : List Byte) : (burstData d).length = d.length := by
  induction d with
  | nil => rfl
  | cons b bs ih =>
    cases bs with
    | nil => rfl
    | cons c cs => simp only [burstData, List.length_cons, ih]

/-- The data actions of a burst, one by one: `last` is on the final one (R144). -/
theorem burstData_getElem? (d : List Byte) (j : Nat) (hj : j < d.length) :
    (burstData d)[j]? = some (.dat d[j] false (j + 1 == d.length)) := by
  induction d generalizing j with
  | nil => simp at hj
  | cons b bs ih =>
    cases bs with
    | nil => simp at hj; subst hj; rfl
    | cons c cs =>
      cases j with
      | zero => simp [burstData]
      | succ j =>
        simp only [burstData, List.getElem?_cons_succ]
        rw [ih j (by simpa using hj)]
        simp

/-- A burst's data actions send its bytes. -/
theorem burstData_bytes (s : State) (d : List Byte) :
    (burstData d).map (fun a => (s.dataOf a).1) = d := by
  apply List.ext_getElem?
  intro j
  by_cases hj : j < d.length
  · simp [burstData_getElem? d j hj, hj, State.dataOf]
  · rw [List.getElem?_eq_none (by simp [burstData_length]; omega), List.getElem?_eq_none (by omega)]

/-- A burst's data actions have a burst's framing. -/
theorem burstData_framing (s : State) (d : List Byte) :
    (burstData d).map (fun a => (s.dataOf a).2) = burstFraming d.length := by
  apply List.ext_getElem?
  intro j
  by_cases hj : j < d.length
  · simp [burstData_getElem? d j hj, hj, State.dataOf, burstFraming]
  · rw [List.getElem?_eq_none (by simp [burstData_length]; omega),
      List.getElem?_eq_none (by simp [burstFraming]; omega)]

end Sys2Proof.Machine
end

