-- ==== Sys2Proof/Laws/Step.lean ====
section
/-! SUPPORT. What a step can do: which instruction it runs and on which turn, and that the meaning of a
wire instruction is the step of the action at the cursor. -/

namespace Sys2Proof

/-- The host requests (R92), as against the wire commands. -/
def Instr.isRequest : Instr → Bool
  | .nop | .init | .fill | .setpixel | .update | .drawbitmap _ | .updatewindow | .drawpaged
  | .erase _ | .setrotation | .pagedone => true
  | .setRamXRange _ _ | .setRamYRange _ _ _ _ | .setRamXPtr _ | .setRamYPtr _ _ | .writeLut _
  | .writeRam _ | .updateCtrl _ | .activate | .endUpdate => false
  | .initPanelConfig _ _ | .initSoftStart _ _ | .initVcom _ _ | .initDummyLine _ _
  | .initGateTime _ _ | .initEntryMode _ _ => false

end Sys2Proof

namespace Sys2Proof.Machine

/-- A CMD word decodes to a host request. -/
theorem isRequest_of_decode {v : Word} {i : Instr} (h : decode (.cmdWord v) = .ok i) :
    i.isRequest = true := by
  simp only [decode, decodeCmd] at h
  split at h
  · have key : ∀ (op : BitVec 4) (p : Bool),
        (requestOf op p).toOption.all Instr.isRequest = true := by decide
    have := key (cmdOp v) (cmdP v)
    rw [h] at this
    simpa [Except.toOption] using this
  · simp at h

/-- The meaning of a decoded wire command is `sendWire`, through the source port for WRITE_RAM. -/
theorem exec_of_decode_wire {i : Instr} {f : Frame} {code : Byte} {data : List Byte}
    (h : decode (.wire f code data) = .ok i) (s : State) :
    exec i s = .next (s.sendWire f code data) ∨
      (f = .single ∧ code = 0x24#8 ∧
        exec i s = .next (s.viaSource (fun t => t.sendWire .single 0x24#8 data))) := by
  cases f with
    | single =>
      simp only [decode, decodeWire, decodeSingle] at h
      split at h
      · split at h <;> simp_all; subst h; rfl
      split at h
      · split at h <;> simp_all; subst h; rfl
      split at h
      · split at h <;> simp_all; subst h; rfl
      split at h
      · split at h <;> simp_all; subst h; rfl
      split at h
      · split at h <;> simp_all; subst h; right; rfl
      split at h
      · split at h <;> simp_all; subst h; rfl
      split at h
      · split at h <;> simp_all; subst h; rfl
      split at h
      · split at h <;> simp_all; subst h; rfl
      simp at h
    | lutBurst =>
      simp only [decode, decodeWire] at h
      split at h
      · split at h <;> simp_all; subst h; rfl
      · simp at h
    | initBurst k =>
      simp only [decode, decodeWire] at h
      split at h
      · left; cases k <;> simp_all [initInstr] <;> subst h <;> rfl
      · simp at h

/-- The meaning of a fetched wire instruction is the step of the action at the cursor (R23): sending a
command item by item is what its actions do one by one. -/
theorem exec_of_fetchWire {s : State} {i : Instr} (h : s.fetchWire = some i) :
    exec i s = .next s.sequencerStep := by
  unfold State.fetchWire at h
  split at h
  rotate_left
  · simp at h
  rename_i hb
  obtain ⟨e, he, hd⟩ := Option.bind_eq_some_iff.1 h
  have hd : decode e = .ok i := by
    cases hh : decode e <;> simp [hh, Except.toOption] at hd; rw [hd]
  unfold State.wireEncoded at he
  simp only at he
  split at he
  · rename_i b hc
    obtain ⟨pre, ds, rest, ha, hda, hra, hpl, hle, hkd⟩ := State.wire_decompose hc rfl
    have hdat := dataActions_eq ha hda hra
    rw [← hpl, hdat] at he
    split at he
    rotate_left
    · simp at he
    rename_i hf
    simp only [Option.some.injEq] at he
    subst he
    have hpc : s.pc = pre.length + s.itemIndex := by omega
    have hact := action_at_cursor ha s.itemIndex hkd
    rw [← hpc] at hact
    simp only [State.sequencerStep, hb, if_true, hact]
    simp only [Bool.and_eq_true, List.all_eq_true, Bool.or_eq_true, beq_iff_eq, List.all_map, Function.comp] at hf
    obtain ⟨hf1, hf2⟩ := hf
    cases hk : s.itemIndex with
    | zero =>
      rw [hk] at hact
      simp only [List.getElem?_cons_zero] at hact ⊢
      have hsr : s.sourceRead = none := by simp [State.sourceRead, hact]
      rcases exec_of_decode_wire hd s with h1 | ⟨_, h2, h1⟩
      · rw [h1]; simp [State.sendWire, hk, wireItem, State.actionStep]
      · rw [h1]; simp [State.viaSource, hsr, State.sendWire, hk, wireItem, State.actionStep, h2]
    | succ j =>
      rw [hk] at hact hkd
      have hj : j < ds.length := by omega
      simp only [List.getElem?_cons_succ, List.getElem?_eq_getElem hj] at hact ⊢
      have hm := List.getElem_mem hj
      have hdj := hda _ hm
      cases hcase : ds[j] <;> rw [hcase] at hdj <;> simp [Action.isData] at hdj
      · rename_i b' fi la
        rw [hcase] at hact
        have hsr : s.sourceRead = none := by simp [State.sourceRead, hact]
        have hff := hf1 _ hm
        rw [hcase] at hff; simp [State.dataOf] at hff
        rcases exec_of_decode_wire hd s with h1 | ⟨_, h2, h1⟩
        · rw [h1]; simp [State.sendWire, hk, wireItem, State.actionStep, hj, hcase, State.dataOf, hff]
        · rw [h1]; simp [State.viaSource, hsr, State.sendWire, hk, wireItem, State.actionStep, hj, hcase, State.dataOf, hff]
      · rename_i src r c
        rw [hcase] at hact
        have h24 : b = 0x24#8 := by
          rcases hf2 with h | h
          · exact h
          · have := h _ hm; rw [hcase] at this; simp [Action.isPix] at this
        have h1 : exec i s = .next (s.viaSource (fun t => t.sendWire .single 0x24#8 (ds.map (fun a => (s.dataOf a).1)))) := by
          subst h24
          simp only [decode, decodeWire, decodeSingle] at hd
          simp at hd
          split at hd
          · simp at hd; subst hd; simp [exec, execWriteRam]
          · simp at hd
        rw [h1]
        simp only [State.actionStep]
        congr 1
        have : s.sendWire .single 0x24#8 (ds.map (fun a => (s.dataOf a).1)) = s.send false ⟨true, s.pixelByte src r c, true, true⟩ := by
          simp [State.sendWire, hk, wireItem, hj, hcase, State.dataOf]
        unfold State.viaSource
        cases s.sourceRead <;> simp [this]
  · rename_i of b last hc
    obtain ⟨pre, ds, rest, ha, hda, hra, hpl, hle, hkd⟩ := State.wire_decompose hc rfl
    have hdat := dataActions_eq ha hda hra
    rw [← hpl, hdat] at he
    split at he
    rotate_left
    · simp at he
    rename_i hf
    obtain ⟨hlast, hfr⟩ := hf
    obtain ⟨f, hee, hfs⟩ : ∃ f, e = .wire f b (List.map (fun a => (s.dataOf a).1) ds) ∧ f ≠ .single := by
      cases of <;> simp at he <;> subst he <;> exact ⟨_, rfl, by simp⟩
    subst hee
    have hpc : s.pc = pre.length + s.itemIndex := by omega
    have hact := action_at_cursor ha s.itemIndex hkd
    rw [← hpc] at hact
    simp only [State.sequencerStep, hb, if_true, hact]
    rcases exec_of_decode_wire hd s with h1 | ⟨hx, _, _⟩
    rotate_left
    · exact absurd hx hfs
    rw [h1]
    cases hk : s.itemIndex with
    | zero =>
      rw [hk] at hact
      simp only [List.getElem?_cons_zero] at hact ⊢
      cases f <;> simp [State.sendWire, hk, wireItem, State.actionStep, hlast] at hfs ⊢
    | succ j =>
      rw [hk] at hact hkd
      have hj : j < ds.length := by omega
      simp only [List.getElem?_cons_succ, List.getElem?_eq_getElem hj] at hact ⊢
      have hm := List.getElem_mem hj
      have hdj := hda _ hm
      have hfj : (s.dataOf ds[j]).2 = (false, j + 1 == ds.length) := by
        have := congrArg (fun l => l[j]?) hfr
        simpa [burstFraming, hj] using this
      cases hcase : ds[j] <;> rw [hcase] at hdj hfj <;> simp [Action.isData] at hdj <;> simp [State.dataOf] at hfj
      · rename_i b' fi la
        cases f <;> simp [State.sendWire, hk, wireItem, State.actionStep, hj, hcase, State.dataOf, hfj] at hfs ⊢
  · simp at he

/-- On the sequencer's turn a step is the sequencer's step, whether it runs an instruction or not. -/
theorem step_sequencer {s : State} (hl : s.params.legal = true) (ht : s.turn = .sequencer) :
    step s = .next s.popTurn.sequencerStep := by
  have hf : s.fetch = s.fetchWire := by simp [State.fetch, ht]
  simp only [step, hl, if_true, hf]
  cases hp : s.fetchWire with
  | none => simp [ht, State.turnEffect]
  | some i =>
    have hp' : s.popTurn.fetchWire = some i := hp
    exact exec_of_fetchWire hp'

/-- On any other turn than the host's and the sequencer's a step is the turn's effect. -/
theorem step_other {s : State} (hl : s.params.legal = true) (hh : ∀ a, s.turn ≠ .host a)
    (hs : s.turn ≠ .sequencer) : step s = .next (s.popTurn.turnEffect s.turn) := by
  have hf : s.fetch = none := by
    unfold State.fetch
    cases ht : s.turn with
    | host a => exact absurd ht (hh a)
    | sequencer => exact absurd ht hs
    | _ => rfl
  simp [step, hl, hf]

/-- A tick's step. -/
theorem step_tick {s : State} {ts : List Turn} (hl : s.params.legal = true)
    (ht : s.turns = .tick :: ts) : step s = .next s.popTurn.tick := by
  have h : s.turn = .tick := by simp [State.turn, ht]
  rw [step_other hl (by simp [h]) (by simp [h]), h]
  rfl

/-- What a step that answers a next state did: with a legal record, a request of the host's, another host
access, the sequencer's step, or another turn's effect. -/
theorem step_cases {s t : State} (h : step s = .next t) :
    s.params.legal = true ∧
      ((∃ a i, s.turn = .host a ∧ s.presented a = some i ∧ s.fetch = some i ∧ i.isRequest = true
          ∧ s.pins.rstN = true ∧ a.offset = 0 ∧ exec i s.popTurn = .next t) ∨
        (∃ a, s.turn = .host a ∧ s.presented a = none ∧ t = s.popTurn.hostAccess a) ∨
        (s.turn = .sequencer ∧ t = s.popTurn.sequencerStep) ∨
        ((∀ a, s.turn ≠ .host a) ∧ s.turn ≠ .sequencer ∧ t = s.popTurn.turnEffect s.turn)) := by
  by_cases hl : s.params.legal = true
  · refine ⟨hl, ?_⟩
    cases ht : s.turn with
    | host a =>
      have hf : s.fetch = s.presented a := by simp [State.fetch, ht]
      cases hp : s.presented a with
      | none =>
        refine .inr (.inl ⟨a, rfl, hp, ?_⟩)
        simpa [step, hl, hf, hp, ht, State.turnEffect] using h.symm
      | some i =>
        refine .inl ⟨a, i, rfl, hp, hf.trans hp, ?_, ?_, ?_, ?_⟩
        · have hd : decode (.cmdWord a.wdata) = .ok i := by
            unfold State.presented at hp
            split at hp
            · cases hh : decode (.cmdWord a.wdata) <;> simp [hh, Except.toOption] at hp
              rw [hp]
            · simp at hp
          exact isRequest_of_decode hd
        · unfold State.presented at hp
          split at hp
          · rename_i hc; simp at hc; exact hc.1.2
          · simp at hp
        · unfold State.presented at hp
          split at hp
          · rename_i hc; simp at hc; exact hc.2
          · simp at hp
        · simpa [step, hl, hf, hp] using h
    | sequencer =>
      rw [step_sequencer hl ht] at h
      simp only [Host.Outcome.next.injEq] at h
      exact .inr (.inr (.inl ⟨rfl, h.symm⟩))
    | _ =>
      rw [step_other hl (by simp [ht]) (by simp [ht]), ht] at h
      simp only [Host.Outcome.next.injEq] at h
      exact .inr (.inr (.inr ⟨by simp, by simp, h.symm⟩))
  · simp [step, hl] at h

/-- What a request's acceptance answers. -/
theorem accept_next {s t : State} {cls : RequestClass} {body : State → State}
    (h : (Host.Outcome.next (s.accept cls body) : Host.Outcome State Fault Refusal) = .next t) :
    (∃ c, s.rejection cls = some c ∧ t = s.reject c) ∨
      (s.rejection cls = none ∧ t = body { s with lastErr := .accepted }) := by
  simp only [Host.Outcome.next.injEq] at h
  subst h
  exact State.accept_cases s cls body

end Sys2Proof.Machine
end

