-- ==== Sys2Proof/Laws/Transform.lean ====
section
/-! SUPPORT. The transform bit by bit. -/

namespace Sys2Proof.Machine

/-- `rev8` by its bits: the eight bits of `b`, the lowest first in the highest place. -/
theorem rev8_getLsbD (b : Byte) (i : Nat) (h : i < 8) : (rev8 b).getLsbD i = b.getLsbD (7 - i) := by
  revert b
  interval_cases i <;> decide

end Sys2Proof.Machine
end

