-- ==== Sys2Proof/Tests/Slice0.lean ====
section
/-! SUPPORT. Tests of this model and witnesses of its statements' hypotheses. Every expected value is one
that the spec states or that its rules give by hand (95_test_vectors.md names in brackets). -/

namespace Sys2Proof.Tests

open Sys2Proof Sys2Proof.Machine

/-! ## Small states -/

/-- A panel of 16 by 10 pixels in 5 pages with closed LUTs: `WB = 2`, `PAGE_H = 2`, `PAGE_BYTES = 4`. -/
def tiny : Params :=
  { Params.v60 16 10 20 5 with
    lutFull := 0x32#8 :: List.replicate 30 0x02#8, lutPart := 0x32#8 :: List.replicate 30 0x03#8 }

/-- The small panel is a legal configuration. -/
theorem legal_tiny : tiny.legal = true := by decide

/-- Reset with the small panel. -/
def start : State := { State.reset with params := tiny }

/-- An operation runs at place `pc` of `acts`, on the small panel. -/
def running (acts : List Machine.Action) (pc : Nat) : State :=
  { start with seqBusy := true, acts := acts, pc := pc }

/-- A page request for page 2 of a DRAWPAGED, the cursor on its AwaitPage. -/
def paged : State :=
  { running [.awaitPage, .setPhase .transfer, .setCursor 0xFF#8, .setPhase .poff, .done] 0 with
    phase := .pageWait, pageReq := true, pageCursor := 2#8, latched := { start.latched with lOp := 7#4 } }

/-- The next turn is a host access. -/
def hostTurn (write : Bool) (addr : BitVec 17) (v : Word) (s : State) : State :=
  { s with turns := [.host ⟨write, addr, v⟩] }

/-- The ARG registers hold `x` and `y` in ARG0 and `c` in ARG1. -/
def withArgs (a0 a1 : Word) (s : State) : State := { s with args := ⟨a0, a1, 0#32, 0#32⟩ }

/-- The state a step answers, if it answers one. -/
def after (o : Host.Outcome State Fault Refusal) : Option State :=
  match o with
  | .next t => some t
  | _       => none

/-- A view of the state an instruction leaves. -/
def leaves {α : Type} (i : Instr) (s : State) (f : State → α) : Option α := (after (exec i s)).map f

/-- A view of the state a step leaves. -/
def stepLeaves {α : Type} (s : State) (f : State → α) : Option α := (after (step s)).map f

/-! ## Well-formedness (R100): an ill-formed term for each check -/

theorem test_wf_lut_of_29_is_refused : (Instr.writeLut (List.replicate 29 0#8)).wellFormed = false := by decide
theorem test_wf_lut_of_31_is_refused : (Instr.writeLut (List.replicate 31 0#8)).wellFormed = false := by decide
theorem test_wf_empty_pixels_are_refused : (Instr.writeRam []).wellFormed = false := by decide
theorem test_wf_too_many_pixels_are_refused :
    (Instr.writeRam (List.replicate (256 * 65535 + 1) 0#8)).wellFormed = false := by
  simp only [Instr.wellFormed, List.length_replicate, maxPixels]; decide
theorem test_wf_init_data_of_16_is_refused : ∀ k : InitStep,
    (initInstr k 0#8 (List.replicate 16 0#8)).wellFormed = false := by rintro (_ | _ | _ | _ | _ | _) <;> decide
theorem test_wf_init_data_of_15_is_taken : ∀ k : InitStep,
    (initInstr k 0#8 (List.replicate 15 0#8)).wellFormed = true := by rintro (_ | _ | _ | _ | _ | _) <;> decide

/-! ## Decoding: a word written out from R91, R92, R100 and G1 for every constructor -/

theorem test_decode_nop : decode (.cmdWord 0b00000000000000000000000000000000#32) = .ok .nop := by decide
theorem test_decode_init : decode (.cmdWord 0b00000000000000000000000000000001#32) = .ok .init := by decide
theorem test_decode_fill : decode (.cmdWord 0b00000000000000000000000000000010#32) = .ok .fill := by decide
theorem test_decode_setpixel : decode (.cmdWord 0b00000000000000000000000000000011#32) = .ok .setpixel := by decide
theorem test_decode_update : decode (.cmdWord 0b00000000000000000000000000000100#32) = .ok .update := by decide
theorem test_decode_drawbitmap :
    decode (.cmdWord 0b00000000000000000000000000000101#32) = .ok (.drawbitmap false) := by decide
theorem test_decode_drawbitmap_partial :
    decode (.cmdWord 0b00000000000000000000000100000101#32) = .ok (.drawbitmap true) := by decide
theorem test_decode_updatewindow :
    decode (.cmdWord 0b00000000000000000000000000000110#32) = .ok .updatewindow := by decide
theorem test_decode_drawpaged : decode (.cmdWord 0b00000000000000000000000000000111#32) = .ok .drawpaged := by decide
theorem test_decode_erase : decode (.cmdWord 0b00000000000000000000000000001000#32) = .ok (.erase false) := by decide
theorem test_decode_erase_partial :
    decode (.cmdWord 0b00000000000000000000000100001000#32) = .ok (.erase true) := by decide
theorem test_decode_setrotation :
    decode (.cmdWord 0b00000000000000000000000000001001#32) = .ok .setrotation := by decide
theorem test_decode_pagedone : decode (.cmdWord 0b00000000000000000000000000001010#32) = .ok .pagedone := by decide

theorem test_decode_setRamXRange :
    decode (.wire .single 0x44#8 [0x01#8, 0x02#8]) = .ok (.setRamXRange 0x01#8 0x02#8) := by decide
theorem test_decode_setRamYRange : decode (.wire .single 0x45#8 [0xEF#8, 0x00#8, 0xE8#8, 0x00#8])
    = .ok (.setRamYRange 0xEF#8 0x00#8 0xE8#8 0x00#8) := by decide
theorem test_decode_setRamXPtr : decode (.wire .single 0x4E#8 [0x01#8]) = .ok (.setRamXPtr 0x01#8) := by decide
theorem test_decode_setRamYPtr :
    decode (.wire .single 0x4F#8 [0xEF#8, 0x00#8]) = .ok (.setRamYPtr 0xEF#8 0x00#8) := by decide
theorem test_decode_writeLut : decode (.wire .lutBurst 0x32#8 (List.replicate 30 0x02#8))
    = .ok (.writeLut (List.replicate 30 0x02#8)) := by decide
theorem test_decode_writeRam :
    decode (.wire .single 0x24#8 [0xFF#8, 0xEF#8]) = .ok (.writeRam [0xFF#8, 0xEF#8]) := by decide
theorem test_decode_updateCtrl : decode (.wire .single 0x22#8 [0xC4#8]) = .ok (.updateCtrl 0xC4#8) := by decide
theorem test_decode_activate : decode (.wire .single 0x20#8 []) = .ok .activate := by decide
theorem test_decode_endUpdate : decode (.wire .single 0xFF#8 []) = .ok .endUpdate := by decide
theorem test_decode_initPanelConfig : decode (.wire (.initBurst .panelConfig) 0x01#8 [0xF9#8, 0x00#8, 0x00#8])
    = .ok (.initPanelConfig 0x01#8 [0xF9#8, 0x00#8, 0x00#8]) := by decide
theorem test_decode_initSoftStart : decode (.wire (.initBurst .softStart) 0x0C#8 [0xD7#8, 0xD6#8, 0x9D#8])
    = .ok (.initSoftStart 0x0C#8 [0xD7#8, 0xD6#8, 0x9D#8]) := by decide
theorem test_decode_initVcom :
    decode (.wire (.initBurst .vcom) 0x2C#8 [0xA8#8]) = .ok (.initVcom 0x2C#8 [0xA8#8]) := by decide
theorem test_decode_initDummyLine :
    decode (.wire (.initBurst .dummyLine) 0x3A#8 [0x1A#8]) = .ok (.initDummyLine 0x3A#8 [0x1A#8]) := by decide
theorem test_decode_initGateTime :
    decode (.wire (.initBurst .gateTime) 0x3B#8 [0x08#8]) = .ok (.initGateTime 0x3B#8 [0x08#8]) := by decide
theorem test_decode_initEntryMode :
    decode (.wire (.initBurst .entryMode) 0x11#8 [0x01#8]) = .ok (.initEntryMode 0x11#8 [0x01#8]) := by decide

/-- [A2, A3, A4, A5, A8, A18]: each reserved field and each reserved opcode. -/
theorem test_decode_reserved_words :
    decode (.cmdWord 0x00000010#32) = .error .reservedBits ∧ decode (.cmdWord 0x00000200#32) = .error .reservedBits ∧
    decode (.cmdWord 0x80000004#32) = .error .reservedBits ∧ decode (.cmdWord 0x00000104#32) = .error .partialNotDefined ∧
    decode (.cmdWord 0x0000000B#32) = .error .reservedOpcode ∧ decode (.cmdWord 0x0000000F#32) = .error .reservedOpcode ∧
    decode (.cmdWord 0x00000110#32) = .error .reservedBits := by decide

/-- A wire command with a data byte too few or too many, or an unknown code, is none (R100). -/
theorem test_decode_wrong_wire_commands :
    decode (.wire .single 0x44#8 [0x01#8]) = .error .wrongDataCount ∧
    decode (.wire .single 0x20#8 [0x00#8]) = .error .wrongDataCount ∧
    decode (.wire .single 0x24#8 []) = .error .wrongDataCount ∧
    decode (.wire .lutBurst 0x32#8 [0x00#8]) = .error .wrongDataCount ∧
    decode (.wire .single 0x10#8 []) = .error .unknownCode := by decide

/-- Table words: a request, a wire code, the reader's 32-bit WRITE_LUT row, and a reserved word. -/
theorem test_decodeTableWord : decodeTableWord 32 7 = some .drawpaged ∧
    decodeTableWord 8 0x44 = some (.setRamXRange 0#8 0#8) ∧
    decodeTableWord 32 0x40000032 = some (.writeLut (List.replicate 30 0#8)) ∧
    decodeTableWord 32 0xB = none := by decide

/-- The step after `withFetchWord` fetches the table's instruction, of either layer. -/
theorem test_withFetchWord :
    (State.reset.withFetchWord 32 0x105).fetch = some (.drawbitmap true) ∧
    (State.reset.withFetchWord 8 0x24).fetch = some (.writeRam [0#8]) ∧
    (State.reset.withFetchWord 8 0xFF).fetch = some .endUpdate := by decide

/-! ## Requests -/

/-- [Q1]. -/
theorem test_nop_clears_lastErr :
    leaves .nop { paged with lastErr := .busy } (fun t => (t.lastErr, t.acts, t.pageReq))
      = some (.accepted, paged.acts, true) := by decide

/-- [Q2]: the sequence, and STATUS before its first action. -/
theorem test_init_without_pulse : leaves .init start (fun t => (t.status, t.acts))
    = some (0x00FF0001#32, [.setPhase .resetting, .setRst true, .setCursor 0xFF#8, .done]) := by decide

/-- [Q4], the pulse. -/
theorem test_init_with_pulse :
    leaves .init { start with params := { tiny with resetPulseMs := 10, resetRecoverMs := 5 } } (fun t => t.acts)
      = some [.setPhase .resetting, .setRst false, .delay 10, .setRst true, .delay 5, .setCursor 0xFF#8, .done] := by
  decide

/-- [F3]: any colour but 0 is white; the store has 4 bytes here. -/
theorem test_fill_white :
    leaves .fill (withArgs 0#32 1#32 { start with params := { tiny with fbBytes := 4 } }) (fun t => t.fb)
      = some [(0, 0x00#8), (1, 0x00#8), (2, 0x00#8), (3, 0x00#8)] := by decide

/-- [F4]: ARG1[31:16] is no part of the colour, and a page request does not stop it. -/
theorem test_fill_ignores_high_half :
    leaves .fill (withArgs 0#32 0x00010000#32 { paged with params := { tiny with fbBytes := 4 } }) (fun t => (t.fb, t.clip))
      = some ([(0, 0xFF#8), (1, 0xFF#8), (2, 0xFF#8), (3, 0xFF#8)], false) := by decide

/-- V213 with FB byte `i` written 0 and the rest unwritten. -/
def v213 (i : Nat) : State := { State.reset with fb := [(i, 0x00#8)] }

/-- [S3, S9, S13, S14]: the four rotations of pixel (5, 3). -/
theorem test_setpixel_rotations :
    leaves .setpixel (withArgs 0x00030005#32 0#32 (v213 48)) (fun t => (t.fb, t.clip)) = some ([(48, 0x04#8)], false) ∧
    leaves .setpixel (withArgs 0x00030005#32 0#32 { v213 95 with rotation := 1#2 }) (fun t => t.fb) = some [(95, 0x08#8)] ∧
    leaves .setpixel (withArgs 0x00030005#32 0#32 { v213 3951 with rotation := 2#2 }) (fun t => t.fb)
      = some [(3951, 0x20#8)] ∧
    leaves .setpixel (withArgs 0x00030005#32 0#32 { v213 3904 with rotation := 3#2 }) (fun t => t.fb)
      = some [(3904, 0x10#8)] := by decide

/-- [S5, S7, S16, S20, S21]: dropped writes, white, and page 2's rebase. -/
theorem test_setpixel_clips_and_rebases :
    leaves .setpixel (withArgs 0x00000080#32 0#32 (v213 0)) (fun t => (t.fb, t.clip)) = some ([(0, 0x00#8)], true) ∧
    leaves .setpixel (withArgs 0x0000FFFF#32 0#32 (v213 0)) (fun t => (t.fb, t.clip)) = some ([(0, 0x00#8)], true) ∧
    leaves .setpixel (withArgs 0#32 1#32 { v213 0 with fb := [(0, 0xFF#8)] }) (fun t => t.fb) = some [(0, 0x7F#8)] ∧
    leaves .setpixel (withArgs 0x00780000#32 0#32 { v213 320 with pageCursor := 2#8 }) (fun t => (t.fb, t.clip))
      = some ([(320, 0x80#8)], false) ∧
    leaves .setpixel (withArgs 0x00630000#32 0#32 { v213 320 with pageCursor := 2#8 }) (fun t => (t.fb, t.clip))
      = some ([(320, 0x00#8)], true) := by decide

/-- [O1] on the small panel: `NI + 55 + WB * H` items with `NI = 16`, the full LUT, PARTIAL = 0. -/
theorem test_update_sequence :
    leaves .update { start with partialLut := true } (fun t => (itemCount t.acts, t.status, t.acts.contains (.dat 0x02#8 false true)))
      = some (91, 0x00FF0001#32, true) := by decide

/-- [O8]: with P the partial LUT, and the operands latched. -/
theorem test_drawbitmap_partial :
    leaves (.drawbitmap true) { start with args := ⟨0#32, 0#32, 0xFFFFFFFF#32, 2#32⟩ }
      (fun t => (itemCount t.acts, t.partialLut, t.latched.lBase, t.latched.lSize, t.acts.contains (.dat 0x03#8 false true)))
      = some (91, true, 0xFFFFFFFF#32, 2#32, true) := by decide

/-- [W1]: `NI + 69 + 2N` items, the window's bytes as in E3. -/
theorem test_updatewindow_example :
    leaves .updatewindow (withArgs 0x000A000A#32 0x00080008#32 State.reset)
      (fun t => (t.latched.window t.params, t.clip, t.partialLut, setRamArea t.params (t.latched.window t.params)))
      = some (⟨10, 17, 10, 17⟩, false, true,
          [.cmd 0x44#8, .dat 0x01#8 true true, .dat 0x02#8 true true, .cmd 0x45#8, .dat 0xEF#8 true true,
           .dat 0x00#8 true true, .dat 0xE8#8 true true, .dat 0x00#8 true true]) := by decide

/-- [A19, W7]: dropped. -/
theorem test_updatewindow_dropped :
    leaves .updatewindow (withArgs 0x00000080#32 0x00080008#32 State.reset) (fun t => (t.status, t.acts))
      = some (0x00FF0010#32, []) := by decide

/-- [O13] on one row in one page: `NI + 50 + PAGE_COUNT * (32 + 2 * PAGE_BYTES)` items. -/
theorem test_drawpaged_sequence :
    leaves .drawpaged { start with params := { tiny with height := 1, pageCount := 1 } }
      (fun t => (itemCount t.acts, t.status)) = some (102, 0x00FF0005#32) := by rfl

/-- [O9]: the small panel's 20 pixel actions read no store. -/
theorem test_erase_sequence :
    leaves (.erase false) start (fun t => (itemCount t.acts, t.partialLut, t.acts.contains (.pix .zero 9 1)))
      = some (91, false, true) := by decide

/-- [Q5]. -/
theorem test_setrotation_ignores_high_bits :
    leaves .setrotation (withArgs 0x7#32 0#32 start) (fun t => t.status) = some 0x00FF3000#32 := by decide

/-- [A15]. -/
theorem test_setrotation_in_page_request :
    leaves .setrotation paged (fun t => (t.lastErr, t.rotation)) = some (.busy, 0#2) := by decide

/-- [Q7]. -/
theorem test_pagedone : leaves .pagedone { paged with partialLut := true } (fun t => (t.status, t.pdone))
    = some (0x00020605#32, true) := by decide

/-- [A9, A11]. -/
theorem test_pagedone_rejected : leaves .pagedone start (fun t => (t.lastErr, t.pdone)) = some (.state, false) ∧
    leaves .pagedone { paged with pageReq := false } (fun t => t.lastErr) = some .busy := by decide

/-! ## Wire commands: one item each, by the bus [E3, B8, B9, B10, B11] -/

/-- The items that the steps of a wire command send, the cursor at item `k`. -/
def sends (i : Instr) (acts : List Machine.Action) (k : Nat) : Option (List BusItem) :=
  leaves i (running acts k) (fun t => t.trace)

theorem test_setRamXRange_items :
    sends (.setRamXRange 0x01#8 0x02#8) (wireActions .single 0x44#8 [0x01#8, 0x02#8]) 0 = some [⟨false, 0x44#8, true, true⟩] ∧
    sends (.setRamXRange 0x01#8 0x02#8) (wireActions .single 0x44#8 [0x01#8, 0x02#8]) 2 = some [⟨true, 0x02#8, true, true⟩] := by
  decide
theorem test_setRamYRange_items : sends (.setRamYRange 0xEF#8 0x01#8 0xE8#8 0x00#8)
    (wireActions .single 0x45#8 [0xEF#8, 0x01#8, 0xE8#8, 0x00#8]) 2 = some [⟨true, 0x01#8, true, true⟩] := by decide
theorem test_setRamXPtr_items :
    sends (.setRamXPtr 0x01#8) (wireActions .single 0x4E#8 [0x01#8]) 1 = some [⟨true, 0x01#8, true, true⟩] := by decide
theorem test_setRamYPtr_items :
    sends (.setRamYPtr 0xEF#8 0x00#8) (wireActions .single 0x4F#8 [0xEF#8, 0x00#8]) 1
      = some [⟨true, 0xEF#8, true, true⟩] := by decide
theorem test_writeLut_items :
    sends (.writeLut (List.replicate 30 0x02#8)) (wireActions .lutBurst 0x32#8 (List.replicate 30 0x02#8)) 0
      = some [⟨false, 0x32#8, true, false⟩] ∧
    sends (.writeLut (List.replicate 30 0x02#8)) (wireActions .lutBurst 0x32#8 (List.replicate 30 0x02#8)) 30
      = some [⟨true, 0x02#8, false, true⟩] := by decide
theorem test_writeRam_items :
    sends (.writeRam [0xFF#8, 0xEF#8]) (wireActions .single 0x24#8 [0xFF#8, 0xEF#8]) 2
      = some [⟨true, 0xEF#8, true, true⟩] := by decide
theorem test_updateCtrl_items :
    sends (.updateCtrl 0xC4#8) (wireActions .single 0x22#8 [0xC4#8]) 1 = some [⟨true, 0xC4#8, true, true⟩] := by decide
theorem test_activate_items : sends .activate (wireActions .single 0x20#8 []) 0 = some [⟨false, 0x20#8, true, true⟩] := by
  decide
theorem test_endUpdate_items : sends .endUpdate (wireActions .single 0xFF#8 []) 0 = some [⟨false, 0xFF#8, true, true⟩] := by
  decide
theorem test_initPanelConfig_items :
    sends (.initPanelConfig 0x01#8 [0xF9#8, 0x00#8, 0x00#8])
      (wireActions (.initBurst .panelConfig) 0x01#8 [0xF9#8, 0x00#8, 0x00#8]) 1 = some [⟨true, 0xF9#8, false, false⟩] := by
  decide
theorem test_initSoftStart_items :
    sends (.initSoftStart 0x0C#8 [0xD7#8, 0xD6#8, 0x9D#8])
      (wireActions (.initBurst .softStart) 0x0C#8 [0xD7#8, 0xD6#8, 0x9D#8]) 3 = some [⟨true, 0x9D#8, false, true⟩] := by
  decide
theorem test_initVcom_items : sends (.initVcom 0x2C#8 [0xA8#8]) (wireActions (.initBurst .vcom) 0x2C#8 [0xA8#8]) 0
    = some [⟨false, 0x2C#8, true, false⟩] := by decide
theorem test_initDummyLine_items :
    sends (.initDummyLine 0x3A#8 [0x1A#8]) (wireActions (.initBurst .dummyLine) 0x3A#8 [0x1A#8]) 1
      = some [⟨true, 0x1A#8, false, true⟩] := by decide
theorem test_initGateTime_items :
    sends (.initGateTime 0x3B#8 []) (wireActions (.initBurst .gateTime) 0x3B#8 []) 0
      = some [⟨false, 0x3B#8, true, true⟩] := by decide
theorem test_initEntryMode_items :
    sends (.initEntryMode 0x11#8 [0x01#8]) (wireActions (.initBurst .entryMode) 0x11#8 [0x01#8]) 1
      = some [⟨true, 0x01#8, false, true⟩] := by decide

/-- [B2, B4]: the gate holds an END with STATUS showing it, and keeps holding at a poll that sees busy. -/
theorem test_gate_holds_end :
    leaves .endUpdate { running [.cmd 0xFF#8, .done] 0 with busyS := true, phase := .trigger } (fun t => (t.status, t.trace))
      = some (0x00FF0429#32, []) ∧
    leaves .endUpdate { running [.cmd 0xFF#8, .done] 0 with gateWait := true, pollTicks := 1 } (fun t => (t.gateWait, t.trace))
      = some (false, [⟨false, 0xFF#8, true, true⟩]) := by decide

/-- [B3]: a data item looks at no busy line. -/
theorem test_data_is_not_gated :
    leaves (.updateCtrl 0xC4#8) { running (wireActions .single 0x22#8 [0xC4#8]) 1 with busyS := true } (fun t => t.trace)
      = some [⟨true, 0xC4#8, true, true⟩] := by decide

/-! ## Actions that are no instruction -/

/-- [B6, B7] and R149: the starting step loads DCNT; `Delay(0)` completes in it. -/
theorem test_delay_starts :
    stepLeaves (running [.delay 300, .done] 0) (fun t => (t.dcnt, t.pc)) = some (300#32, 0) ∧
    stepLeaves (running [.delay 0, .done] 0) (fun t => (t.dcnt, t.pc)) = some (0#32, 1) := by decide

/-- R206: `Preclear` writes the page buffer white. -/
theorem test_preclear : stepLeaves (running [.preclear, .done] 0) (fun t => t.fb)
    = some [(0, 0x00#8), (1, 0x00#8), (2, 0x00#8), (3, 0x00#8)] := by decide

/-- [O4, O7]: DRAWBITMAP's bytes go through T, the address wraps, and beyond `L_SIZE` the pad goes out. -/
theorem test_bitmap_bytes :
    let s := { running [.pix .bmp 0 1, .done] 0 with
      src := [(0, 0x80#8), (4294967295, 0x0F#8)], latched := ⟨5#4, false, 0#16, 0#16, 0#16, 0#16, 0xFFFFFFFF#32, 2#32⟩ }
    s.pixelByte .bmp 0 0 = 0x0F#8 ∧ s.pixelByte .bmp 0 1 = 0xFE#8 ∧ s.pixelByte .bmp 1 0 = 0xFF#8 ∧
    s.sourceRead = some 0#32 := by decide

/-- [O3]: a store shorter than the window pads. -/
theorem test_store_padding :
    let s := { start with params := { tiny with fbBytes := 4 }, fb := [(3, 0xFF#8)] }
    s.pixelByte .fb 1 1 = 0x00#8 ∧ s.pixelByte .fb 2 0 = 0xFF#8 := by decide

/-! ## Transform, host port, reset -/

/-- [E1, table 2.1]. -/
theorem test_transform : wireT 0x08#8 = 0xEF#8 ∧ wireT 0x12#8 = 0xB7#8 ∧ wireT 0x3A#8 = 0xA3#8 ∧ wireT 0xD9#8 = 0x64#8 := by
  decide

/-- [M1, M4, M8, M10]. -/
theorem test_host_reads :
    ({ start with fb := [(0, 0x80#8), (1, 0x00#8), (2, 0x00#8), (3, 0x01#8)] } : State).hostRead 0x10000 = 0x01000080#32 ∧
    start.hostRead 0x10014 = 0#32 ∧
    stepLeaves (hostTurn false 0x00006#17 0#32 start) (fun t => t.pins.hRdata) = some 0x00FF0000#32 ∧
    State.reset.hostRead 0x18 = 0x00FA0080#32 ∧ State.reset.hostRead 0x1C = 0x00320005#32 ∧
    State.reset.hostRead 0x20 = 0x00000FA0#32 := by decide

/-- [M9, M12, M13]. -/
theorem test_host_writes :
    stepLeaves (hostTurn true 0x0000B#17 0x12345678#32 start) (fun t => t.args.arg0) = some 0x12345678#32 ∧
    stepLeaves (hostTurn true 0x00004#17 0xFFFFFFFF#32 start) (fun t => t.status) = some 0x00FF0000#32 ∧
    stepLeaves (hostTurn true 0x00008#17 1#32 { start with pins := { start.pins with rstN := false } }) (fun t => t.args.arg0)
      = some 0#32 := by decide

/-- [A5, A17]: an ILLEGAL word, also while an operation runs. -/
theorem test_illegal_words :
    stepLeaves (hostTurn true 0#17 0x104#32 start) (fun t => (t.status, t.acts)) = some (0x01FF0000#32, []) ∧
    stepLeaves (hostTurn true 0#17 0xC#32 paged) (fun t => (t.lastErr, t.acts)) = some (.illegal, paged.acts) := by decide

/-- [Z3, Z4]: a reset in a burst leaves FB and the trace, withdraws the offer and drops the sequence. -/
theorem test_reset_in_a_burst :
    stepLeaves { running (wireActions .lutBurst 0x32#8 [0x02#8, 0x02#8]) 1 with
        fb := [(7, 0xAA#8)], trace := [⟨false, 0x32#8, true, false⟩], txq := some ⟨true, 0x02#8, false, false⟩,
        turns := [.rstN false] }
      (fun t => (t.fb, t.trace, t.txq, t.status)) = some ([(7, 0xAA#8)], [⟨false, 0x32#8, true, false⟩], none, 0x00FF0000#32) := by
  decide

/-! ## Witnesses: states and operands that meet the hypotheses of each statement, clause by clause -/

/-- An operation on the small panel at item `k` of a wire command, everything ready. -/
def sending (frame : Frame) (code : Byte) (data : List Byte) (k : Nat) : State :=
  running (wireActions frame code data ++ [.done]) k

theorem witness_DecodeOfEncodeIsTheInstruction :
    (Instr.writeLut (List.replicate 30 0xFF#8)).wellFormed = true ∧ (Instr.writeRam [0xFF#8]).wellFormed = true ∧
    (Instr.initVcom 0xFF#8 (List.replicate 15 0xFF#8)).wellFormed = true ∧ (Instr.erase true).wellFormed = true := by decide

theorem witness_DecodedEncodingIsTheOnlyOne :
    decode (.cmdWord 0x00000108#32) = .ok (.erase true) ∧
    decode (.wire (.initBurst .vcom) 0x24#8 []) = .ok (.initVcom 0x24#8 []) := by decide

theorem witness_IllegalCmdWordsAreRejected :
    (∀ v : Word, let s := hostTurn true 3#17 v start
      s.params.legal = true ∧ s.pins.rstN = true ∧ s.turns = [.host ⟨true, 3#17, v⟩]) ∧ (3#17).toNat / 4 = 0 ∧
    ∀ v ∈ [0xB#32, 0xF#32, 0x10#32, 0x80000000#32, 0x200#32, 0x100#32, 0x104#32],
      0xB ≤ v.toNat % 16 ∨ v.toNat / 16 % 16 ≠ 0 ∨ v.toNat / 512 ≠ 0
        ∨ (v.toNat / 256 % 2 = 1 ∧ v.toNat % 16 ≠ 0x5 ∧ v.toNat % 16 ≠ 0x8) :=
  ⟨fun _ => ⟨legal_tiny, rfl, rfl⟩, by decide, fun v hv => by fin_cases hv <;> decide⟩

theorem witness_NopOnlyClearsLastErr :
    (∀ v : Word, let s := hostTurn true 3#17 v paged
      s.params.legal = true ∧ s.pins.rstN = true ∧ s.turns = [.host ⟨true, 3#17, v⟩]) ∧ (3#17).toNat < 4 ∧
    ∀ v ∈ [0x0#32, 0x10#32, 0x100#32, 0xFFFFFFF0#32], v.toNat % 16 = 0 :=
  ⟨fun _ => ⟨legal_tiny, rfl, rfl⟩, by decide, fun v hv => by fin_cases hv <;> decide⟩

theorem witness_InitStartsTheResetLineSequence :
    start.seqBusy = false ∧ ¬ start.params.resetPulseMs > 0 ∧
    ({ start with params := { tiny with resetPulseMs := 1 } } : State).params.resetPulseMs > 0 := by decide

theorem witness_SetrotationWritesRotationOnly : start.seqBusy = false := by decide

theorem witness_PagedoneHandsThePageOver : paged.seqBusy = true ∧ paged.pageReq = true := by decide

/-- With nothing running and during a page request; a byte below the store's end and one at it. -/
theorem witness_FillWritesEveryStoreByte :
    (start.seqBusy = true → start.pageReq = true) ∧ (paged.seqBusy = true → paged.pageReq = true) ∧
    19 < start.params.fbBytes ∧ start.params.fbBytes ≤ 20 ∧ start.fb.wf := by decide

/-- A pixel that is written and two that are dropped, one of them by the page. -/
theorem witness_SetpixelPaintsOneBitOrClips :
    (start.seqBusy = true → start.pageReq = true) ∧ (paged.seqBusy = true → paged.pageReq = true) ∧
    start.pixelTarget 15 9 = some (19, 0) ∧ start.pixelTarget 16 0 = none ∧ paged.pixelTarget 0 3 = none := by decide

/-- The four rotations at the panel's corner, a page's first and last row, and the rows just outside. -/
theorem witness_PixelTargetIsTheRemappedBit :
    start.params.legal = true ∧ start.pixelTarget 15 9 = some (19, 0) ∧
    ({ start with rotation := 1#2 } : State).pixelTarget 9 15 = some (18, 7) ∧
    ({ start with rotation := 2#2 } : State).pixelTarget 15 9 = some (0, 7) ∧
    ({ start with rotation := 3#2 } : State).pixelTarget 9 15 = some (1, 0) ∧
    paged.params.legal = true ∧ paged.pixelTarget 0 4 = some (0, 7) ∧ paged.pixelTarget 15 5 = some (3, 0) ∧
    paged.pixelTarget 15 3 = none ∧ paged.pixelTarget 0 6 = none ∧ start.pixelTarget (-1) 0 = none := by decide

theorem witness_PanelOperationsStartTheirSequence : start.seqBusy = false := by decide

/-- The four ways to miss the panel at their boundary, and a window at each far edge that does not. -/
theorem witness_UpdatewindowClampsOrDrops :
    let drop := fun (a0 a1 : Word) =>
      let s := withArgs a0 a1 start
      decide (s.seqBusy = false) && decide (a0.toNat % 65536 ≥ s.params.width ∨ a0.toNat / 65536 ≥ s.params.height
        ∨ a1.toNat % 65536 = 0 ∨ a1.toNat / 65536 = 0)
    drop 0x00000010#32 0x00010001#32 = true ∧ drop 0x000A0000#32 0x00010001#32 = true ∧
    drop 0#32 0x00010000#32 = true ∧ drop 0#32 0x00000001#32 = true ∧
    drop 0x0009000F#32 0xFFFFFFFF#32 = false := by decide

/-- Each request with ARG registers that differ in what it does not read. -/
theorem witness_RequestsReadOnlyTheirOperands :
    let s := withArgs 0x00030005#32 0x00010000#32 start
    let low := fun (n : Nat) (v w : Word) => v.toNat % 2 ^ n = w.toNat % 2 ^ n
    Instr.nop ∈ [Instr.nop, .init, .update, .drawpaged, .pagedone, .erase true] ∧
    low 16 0x00020000#32 s.args.arg1 ∧ low 2 0xFFFFFFFD#32 s.args.arg0 ∧
    (0x00030005#32 : Word) = s.args.arg0 ∧ (0x00010000#32 : Word) = s.args.arg1 ∧ (0#32 : Word) = s.args.arg2 ∧
    (0#32 : Word) = s.args.arg3 := by decide

theorem witness_RequestsWhileBusyAreRejected :
    paged.seqBusy = true ∧ Instr.setrotation ∈ [Instr.init, .update, .drawbitmap false, .drawbitmap true, .updatewindow,
      .drawpaged, .erase false, .erase true, .setrotation] ∧
    (running [.waitBusy] 0).seqBusy = true ∧ (running [.waitBusy] 0).pageReq = false ∧
    Instr.pagedone ∈ [Instr.fill, .setpixel, .pagedone] := by decide

theorem witness_PagedoneWithNothingRunningIsRejected : start.seqBusy = false := by decide

/-! ### Wire commands -/

/-- The small panel's wire command, at any item, is ready to send. -/
theorem ready_sending (frame : Frame) (code : Byte) (data : List Byte) (k : Nat) :
    ReadyToSend (sending frame code data k) := ⟨rfl, rfl, fun _ => ⟨rfl, rfl⟩⟩

/-- The first and the last item of each of the four commands. -/
theorem witness_RamAddressingCommandsSendTheirItems :
    ReadyToSend (sending .single 0x45#8 [1#8, 2#8, 3#8, 4#8] 4) ∧
    (∀ n ∈ [1, 2, 4], ∀ k ∈ [0, n],
      (sending .single 0x45#8 ([1#8, 2#8, 3#8, 4#8].take n) k).itemIndex = k) := ⟨ready_sending _ _ _ _, by decide⟩

theorem witness_WriteLutSendsOneBurst :
    let lut := List.replicate 30 0x02#8
    ReadyToSend (sending .lutBurst 0x32#8 lut 30) ∧ lut.length = 30 ∧ (sending .lutBurst 0x32#8 lut 0).itemIndex = 0 ∧
    (sending .lutBurst 0x32#8 lut 1).itemIndex = 0 + 1 ∧ lut[0]? = some 0x02#8 ∧
    (sending .lutBurst 0x32#8 lut 30).itemIndex = 29 + 1 ∧ lut[29]? = some 0x02#8 := ⟨ready_sending _ _ _ _, by decide⟩

/-- WRITE_RAM at its command item and at a pixel; and at a pixel that SRC gives, acknowledged and not. -/
theorem witness_WriteRamSendsPixelItems :
    let fromSrc := fun (ack : Bool) => { running [.cmd 0x24#8, .pix .bmp 0 0, .done] 1 with
      latched := { start.latched with lSize := 1#32 }, pins := { start.pins with sAck := ack } }
    ReadyToSend (sending .single 0x24#8 [0xFF#8] 0) ∧ (sending .single 0x24#8 [0xFF#8] 0).itemIndex = 0 ∧
    (sending .single 0x24#8 [0xFF#8] 0).sourceRead = none ∧ (sending .single 0x24#8 [0xFF#8] 1).itemIndex = 1 ∧
    ReadyToSend (fromSrc true) ∧ ReadyToSend (fromSrc false) ∧ (fromSrc true).itemIndex = 1 ∧
    (fromSrc true).sourceRead = some 0#32 ∧ (fromSrc true).pins.sAck = true ∧
    (fromSrc false).sourceRead = some 0#32 ∧ (fromSrc false).pins.sAck = false :=
  ⟨ready_sending _ _ _ _, by decide, by decide, by decide, ⟨rfl, rfl, fun _ => ⟨rfl, rfl⟩⟩, ⟨rfl, rfl, fun _ => ⟨rfl, rfl⟩⟩,
    by decide⟩

theorem witness_ControlCommandsSendTheirItems :
    ReadyToSend (sending .single 0x22#8 [0xC4#8] 1) ∧ (sending .single 0x22#8 [0xC4#8] 0).itemIndex = 0 ∧
    (sending .single 0x22#8 [0xC4#8] 1).itemIndex = 1 ∧ (sending .single 0xFF#8 [] 0).itemIndex = 0 :=
  ⟨ready_sending _ _ _ _, by decide⟩

/-- An entry with data at its command, first and last item, and one without data. -/
theorem witness_InitTableEntriesSendOneBurst :
    let d := List.replicate 15 0x01#8
    ReadyToSend (sending (.initBurst .vcom) 0x2C#8 d 15) ∧ (sending (.initBurst .vcom) 0x2C#8 d 0).itemIndex = 0 ∧
    (sending (.initBurst .vcom) 0x2C#8 d 1).itemIndex = 0 + 1 ∧ (sending (.initBurst .vcom) 0x2C#8 d 15).itemIndex = 14 + 1 ∧
    d[14]? = some 0x01#8 ∧ (sending (.initBurst .vcom) 0x2C#8 [] 0).itemIndex = 0 := ⟨ready_sending _ _ _ _, by decide⟩

/-- The first check; a hold between polls; a poll that sees busy, and polls that see none, the transport
ready and stalled. -/
theorem witness_CommandItemsWaitAtTheBusyGate :
    let s := fun (wait : Bool) (ticks : Nat) (busy ready : Bool) =>
      { sending .single 0x24#8 [0xFF#8] 0 with
        busyS := busy, gateWait := wait, pollTicks := ticks, pins := { start.pins with txReady := ready } }
    encode (.writeRam [0xFF#8]) = .wire .single 0x24#8 [0xFF#8] ∧
    (∀ wait busy ready, ∀ ticks ∈ [0, 1], (s wait ticks busy ready).itemIndex = 0 ∧ (s wait ticks busy ready).txq = none ∧
      (s wait ticks busy ready).gateWait = wait ∧ (s wait ticks busy ready).busyS = busy ∧
      (s wait ticks busy ready).pins.txReady = ready) ∧
    (s true 0 false true).pollTicks < (s true 0 false true).params.pollMs ∧
    (s true 1 false true).params.pollMs ≤ (s true 1 false true).pollTicks ∧
    (∀ wait, let t := { s wait 0 true true with turns := [.tick] }
      t.params.legal = true ∧ t.turns = [.tick] ∧ t.gateWait = wait) := by decide

/-- An item on offer with the transport stalled and ready, and an item to be formed while it is stalled,
from SRC too, with the source port's acknowledgement and without it; and a turn of either port. -/
theorem witness_StalledTransportKeepsTheOffer :
    let s := fun (offer : Option BusItem) (ready : Bool) (k : Nat) =>
      { sending .single 0x44#8 [1#8, 2#8] k with txq := offer, pins := { start.pins with txReady := ready } }
    let it : BusItem := ⟨true, 2#8, true, true⟩
    let fromSrc := fun ack : Bool => { running [.cmd 0x24#8, .pix .bmp 0 0, .done] 1 with
      latched := { start.latched with lSize := 1#32 }, pins := { start.pins with txReady := false, sAck := ack } }
    encode (.setRamXRange 1#8 2#8) = .wire .single 0x44#8 [1#8, 2#8] ∧ (s none false 2).itemIndex ≤ 2 ∧
    (s (some it) false 2).txq = some it ∧ (s (some it) false 2).pins.txReady = false ∧
    (s (some it) true 2).pins.txReady = true ∧ (s none false 0).txq = none ∧ (s none false 0).itemIndex = 0 ∧
    (s none false 0).gateWait = false ∧ (s none false 0).busyS = false ∧ (s none false 2).sourceRead = none ∧
    (∀ ack, (fromSrc ack).txq = none ∧ (fromSrc ack).itemIndex = 1 ∧ (fromSrc ack).sourceRead = some 0#32 ∧
      (fromSrc ack).pins.sAck = ack ∧ (fromSrc ack).pins.txReady = false) ∧
    ∀ level, ∀ t ∈ [Turn.txReady level, .sAck level], let u := { fromSrc true with turns := [t] }
      u.params.legal = true ∧ u.turns = [t] := by decide

/-! ### Steps -/

/-- A host turn and a sequencer turn that fetch; and the CMD write at the last of its four addresses. -/
theorem witness_StepRunsTheFetchedInstruction :
    (hostTurn true 3#17 0x4#32 start).params.legal = true ∧ (hostTurn true 3#17 0x4#32 start).fetch = some .update ∧
    (sending .single 0x4E#8 [7#8] 1).fetch = some (.setRamXPtr 7#8) ∧ (hostTurn true 3#17 0x4#32 start).pins.rstN = true ∧
    (3#17).toNat < 4 ∧ decode (.cmdWord 0x4#32) = .ok .update := by decide

/-- A command after another and before a third, the cursor at its first and at its last item; and a transfer
of two pixel bytes. -/
theorem witness_StepRunsTheWireCommandAtTheCursor : ∀ k ∈ [1, 3],
    let post := [Machine.Action.cmd 0x20#8, .done]
    let s := running ([.setPhase .transfer] ++ wireActions .single 0x44#8 [1#8, 2#8] ++ post) k
    let pix := [(Source.zero, 0, 0), (Source.fb, 0, 1)]
    let u := running ([.setPhase .transfer] ++ .cmd 0x24#8 :: pix.map (fun q => .pix q.1 q.2.1 q.2.2) ++ post) k
    s.params.legal = true ∧ s.pins.rstN = true ∧ s.seqBusy = true ∧ s.turns = [] ∧
    decode (.wire .single 0x44#8 [1#8, 2#8]) = .ok (.setRamXRange 1#8 2#8) ∧ (post.head?.map Action.isData) = some false ∧
    1 ≤ s.pc ∧ s.pc ≤ 1 + 2 ∧ u.params.legal = true ∧ u.pins.rstN = true ∧ u.seqBusy = true ∧ u.turns = [] ∧
    1 ≤ pix.length ∧ u.pc ≤ 1 + pix.length := by decide

/-- Each kind of record that is refused, its ranges just outside their ends; and legal records at the ends. -/
theorem witness_IllegalConfigurationIsRefused :
    let long : InitEntry := ⟨0x11#8, List.replicate 16 0#8⟩
    let wrong : List Byte := 0x33#8 :: List.replicate 30 0#8
    let short : List Byte := 0x32#8 :: List.replicate 29 0#8
    (∀ p ∈ ([{ tiny with lutFull := wrong }, { tiny with lutPart := wrong },
        { tiny with entrySelects := ⟨false, false, true⟩ }, { tiny with entrySelects := ⟨true, true, true⟩ },
        { tiny with entrySelects := ⟨true, false, false⟩ }, { tiny with updCtrlPart := tiny.updCtrlFull },
        { tiny with lutFull := short }, { tiny with lutPart := short }] : List Params), p.legal = false) ∧
    (∀ p ∈ ([{ tiny with panelConfig := long }, { tiny with softStart := long }, { tiny with vcom := long },
        { tiny with dummyLine := long }, { tiny with gateTime := long }, { tiny with entryMode := long },
        { tiny with pollMs := 0 }] : List Params), p.legal = false) ∧
    (∀ p ∈ ([{ tiny with width := 12 }, { tiny with width := 0 }, { tiny with width := 2056, fbBytes := 65536 },
        { tiny with height := 0 }, { tiny with height := 65540, pageCount := 5, fbBytes := 65536 },
        { tiny with bpp := 2 }, { tiny with pageCount := 0 }, { tiny with height := 128, pageCount := 128 },
        { tiny with pageCount := 3 }, { tiny with fbBytes := 0 }, { tiny with fbBytes := 65537 },
        { tiny with fbBytes := 3 }] : List Params), p.legal = false) ∧
    (∀ p ∈ ([{ tiny with width := 8 }, { tiny with width := 2048, fbBytes := 512 },
        { tiny with height := 1, pageCount := 1 }, { tiny with width := 8, height := 65535, pageCount := 1, fbBytes := 65535 },
        { tiny with height := 127, pageCount := 127 }, { tiny with fbBytes := 65536 }, { tiny with fbBytes := 4 },
        { tiny with softStart := ⟨0x0C#8, List.replicate 15 0#8⟩ }] : List Params), p.legal = true) := by decide

theorem witness_LegalConfigurationNeverStops : start.params.legal = true ∧ Params.v154.legal = true := ⟨by decide, rfl⟩

/-! ### Invariants and rules of the whole machine -/

/-- The invariant holds of the small panel at rest. -/
theorem inv_start : Inv start where
  legal := by decide
  fbWf := by decide
  fbInStore := by decide
  srcWf := by decide
  idle := by decide
  running := by decide
  request := by decide
  cursor := by decide
  cursorLegal := by decide
  pageDone := by decide
  gate := by decide
  delay := by decide
  offer := by decide
  request_source := by intro a h; cases h
  inReset := by decide

/-- The invariant holds of a page request. -/
theorem inv_paged : Inv paged where
  legal := by decide
  fbWf := by decide
  fbInStore := by decide
  srcWf := by decide
  idle := by decide
  running := by decide
  request := by decide
  cursor := by decide
  cursorLegal := by decide
  pageDone := by decide
  gate := by decide
  delay := by decide
  offer := by decide
  request_source := by intro a h; cases h
  inReset := by decide

/-- From rest and from a page request a step answers a next state. -/
theorem witness_EveryStepKeepsTheInvariant :
    Inv start ∧ (after (step start)).isSome = true ∧ Inv paged ∧
    (after (step (hostTurn true 0#17 0xA#32 paged))).isSome = true := ⟨inv_start, by decide, inv_paged, by decide⟩

/-- A step that changes PHASE, and one that resets it. -/
theorem witness_PhaseChangesAreLegal :
    let s := { paged with pageReq := false, pc := 1 }
    Inv start ∧ Inv paged ∧ stepLeaves s (fun t => t.phase) = some .transfer ∧
    stepLeaves { paged with turns := [.rstN false] } (fun t => t.phase) = some .idle :=
  ⟨inv_start, inv_paged, by decide, by decide⟩

theorem witness_OnlyKnownCommandBytesAreEmitted :
    KnownCodes (running (initBurst tiny .vcom ++ [.cmd 0x20#8, .done]) 0) ∧
    (after (step (running (initBurst tiny .vcom ++ [.cmd 0x20#8, .done]) 0))).isSome = true :=
  ⟨⟨by decide, by simp [running, start, State.reset], by decide⟩, by decide⟩

/-- Each of the three writers changes FB. -/
theorem witness_FramebufferHasThreeWriters :
    (stepLeaves (hostTurn true 0#17 0x2#32 start) (fun t => decide (t.fb ≠ start.fb))) = some true ∧
    (stepLeaves (hostTurn true 0#17 0x3#32 start) (fun t => decide (t.fb ≠ start.fb))) = some true ∧
    (stepLeaves (running [.preclear, .done] 0) (fun t => decide (t.fb ≠ start.fb))) = some true := by decide

/-- Each register's writer changes it. -/
theorem witness_RegistersHaveTheirWriters :
    stepLeaves (hostTurn true 0#17 0x9#32 (withArgs 1#32 0#32 start)) (fun t => decide (t.rotation ≠ start.rotation)) = some true ∧
    stepLeaves (running [.setCursor 0#8, .done] 0) (fun t => decide (t.pageCursor ≠ start.pageCursor)) = some true ∧
    stepLeaves (hostTurn true 0#17 0x6#32 start) (fun t => decide (t.clip ≠ start.clip)) = some true ∧
    stepLeaves (hostTurn true 0#17 0x108#32 start) (fun t => decide (t.latched ≠ start.latched)) = some true ∧
    stepLeaves (hostTurn true 0x17#17 0x1#32 start) (fun t => decide (t.args ≠ start.args)) = some true := by decide

theorem witness_HostCannotDisturbARunningOperation :
    let s := hostTurn true 0#17 0x2#32 (running [.waitBusy, .done] 0)
    s.turn = .host ⟨true, 0#17, 0x2#32⟩ ∧ s.seqBusy = true ∧ s.pageReq = false ∧ (after (step s)).isSome = true := by decide

/-- A hold, an advance and the end; a tick and a host write in a page request; and a request that starts. -/
theorem witness_TheCursorNeverSkips :
    paged.turn = .sequencer ∧ paged.seqBusy = true ∧ stepLeaves paged (fun t => t.pc) = some 0 ∧
    stepLeaves { paged with pc := 1 } (fun t => t.pc) = some 2 ∧
    stepLeaves { paged with pc := 4, phase := .poff } (fun t => t.acts) = some [] ∧
    stepLeaves { paged with turns := [.tick] } (fun t => t.pc) = some 0 ∧
    stepLeaves (hostTurn true 0#17 0x2#32 paged) (fun t => (t.pc, t.lastErr)) = some (0, .accepted) ∧
    start.seqBusy = false ∧ stepLeaves (hostTurn true 0#17 0x1#32 start) (fun t => (t.pc, t.seqBusy)) = some (0, true) := by
  decide

/-! ### Host port -/

/-- Each ARG register, at an aligned and at a misaligned address. -/
theorem witness_ArgRegistersStoreAndReadBack : ∀ k ∈ [0, 1, 2, 3],
    let w := BitVec.ofNat 17 (8 + 4 * k)
    let r := BitVec.ofNat 17 (8 + 4 * k + 3)
    let s := { start with turns := [.host ⟨true, w, 5#32⟩, .host ⟨false, r, 0#32⟩] }
    s.params.legal = true ∧ s.pins.rstN = true ∧ k < 4 ∧ w.toNat / 4 = 2 + k ∧ r.toNat / 4 = 2 + k := by decide

/-- In reset and out of it. -/
theorem witness_ReadsHaveNoSideEffect :
    (hostTurn false 0x1FFFF#17 0#32 start).params.legal = true ∧
    (hostTurn false 0x1FFFF#17 0#32 start).turns = [.host ⟨false, 0x1FFFF#17, 0#32⟩] ∧ start.pins.rstN = true ∧
    ({ start with pins := { start.pins with rstN := false } } : State).pins.rstN = false := by decide

/-- Both ends of the reserved range, read and written. -/
theorem witness_ReservedOffsetsReadZeroAndIgnoreWrites :
    (∀ addr write, (hostTurn write addr 7#32 start).params.legal = true ∧
      (hostTurn write addr 7#32 start).turns = [.host ⟨write, addr, 7#32⟩]) ∧
    ∀ addr ∈ [0x00024#17, 0x0FFFF#17], 0x00024 ≤ addr.toNat ∧ addr.toNat ≤ 0x0FFFF :=
  ⟨fun _ _ => ⟨legal_tiny, rfl⟩, fun v hv => by fin_cases hv <;> decide⟩

/-- The first and the last address of each read-only range. -/
theorem witness_ReadOnlyOffsetsIgnoreWrites :
    (∀ addr, (hostTurn true addr 7#32 start).params.legal = true ∧
      (hostTurn true addr 7#32 start).turns = [.host ⟨true, addr, 7#32⟩]) ∧
    ∀ addr ∈ [0x00004#17, 0x00007#17, 0x00018#17, 0x00023#17, 0x10000#17, 0x1FFFF#17],
      addr.toNat / 4 = 1 ∨ (6 ≤ addr.toNat / 4 ∧ addr.toNat / 4 ≤ 8) ∨ 0x10000 ≤ addr.toNat :=
  ⟨fun _ => ⟨legal_tiny, rfl⟩, fun v hv => by fin_cases hv <;> decide⟩

/-- The first aperture word, which the store holds, and the last, which it does not. -/
theorem witness_ApertureReadsFramebufferBytes :
    (∀ j write, let s := hostTurn write (BitVec.ofNat 17 (0x10000 + 4 * j)) 7#32 start
      s.params.legal = true ∧ s.pins.rstN = true ∧
      s.turns = [.host ⟨write, BitVec.ofNat 17 (0x10000 + 4 * j), 7#32⟩]) ∧
    ∀ j ∈ [0, 16383], j < 16384 ∧ (4 * j < tiny.fbBytes ↔ j = 0) :=
  ⟨fun _ _ => ⟨legal_tiny, rfl, rfl⟩, fun v hv => by fin_cases hv <;> decide⟩

theorem witness_ConfigurationRegistersHoldTheParameters :
    State.reset.params.legal = true ∧ State.reset.params.width = 128 ∧ State.reset.params.height = 250 ∧
    State.reset.params.pageCount = 5 ∧ State.reset.params.fbBytes = 4000 ∧
    ∀ addr ∈ [0x18#17, 0x23#17], 6 ≤ addr.toNat / 4 ∧ addr.toNat / 4 ≤ 8 :=
  ⟨rfl, rfl, rfl, rfl, rfl, fun v hv => by fin_cases hv <;> decide⟩

/-! ### Windows and sequences -/

/-- The smallest window at the far corner; the first and the last page. -/
theorem witness_WindowDescriptorsLoseNothing :
    tiny.legal = true ∧ (⟨15, 15, 9, 9⟩ : Window).onPanel tiny ∧ 0 < tiny.pageCount ∧ 4 < tiny.pageCount := by decide

theorem witness_ClampedWindowIsTheVisiblePart :
    windowDropped tiny 15 9 65535 65535 = false ∧ windowDropped tiny 0 0 1 1 = false := by decide

theorem witness_PixelStreamIsRowMajor :
    (⟨9, 15, 8, 9⟩ : Window).onPanel tiny ∧ 0 < (⟨9, 15, 8, 9⟩ : Window).count ∧ 1 < (⟨9, 15, 8, 9⟩ : Window).count := by
  decide

theorem witness_SequencesSendTheirItemCounts : tiny.legal = true ∧ (fullWindow tiny).onPanel tiny := by decide

theorem witness_EveryWriteRamStreamsItsWindow : tiny.legal = true ∧ (⟨15, 15, 9, 9⟩ : Window).onPanel tiny := by decide

theorem witness_PowerOffIsAlwaysReached : ∀ op ∈ [4#4, 5#4, 6#4, 7#4, 8#4],
    ({ start.latched with lOp := op } : Latched).lOp ∈ [0x4#4, 0x5#4, 0x6#4, 0x7#4, 0x8#4] := by decide

/-- The last pixel of a row in the panel's last byte, and a byte beyond the store; the last row of page 2;
the source byte at the bound L_SIZE and below it, and its read. -/
theorem witness_WireBytesCarryPixelsInverted :
    let bmp := { running [.pix .bmp 0 1, .done] 0 with latched := { start.latched with lSize := 2#32 } }
    start.params.legal = true ∧ 7 < 8 ∧ 1 < start.params.wb ∧
    fbIndex start.params (8 * 1 + 7) 9 < start.params.fbBytes ∧ ¬ fbIndex start.params (8 * 1 + 7) 10 < start.params.fbBytes ∧
    paged.params.legal = true ∧ paged.paging = true ∧ paged.page * paged.params.pageH ≤ 5 ∧
    5 < (paged.page + 1) * paged.params.pageH ∧
    0 * bmp.params.wb + 1 < bmp.latched.lSize.toNat ∧ ¬ 1 * bmp.params.wb + 0 < bmp.latched.lSize.toNat ∧
    bmp.txq = none ∧ bmp.acts[bmp.pc]? = some (.pix .bmp 0 1) := by decide

/-- A byte that nothing changed; a running DRAWBITMAP. -/
theorem witness_SourceBytesAreAdmittedValues :
    start.srcRaced 0#32 = false ∧
    ({ running [] 0 with latched := { start.latched with lOp := 5#4 } } : State).seqBusy = true ∧
    ({ running [] 0 with latched := { start.latched with lOp := 5#4 } } : State).latched.lOp = 0x5#4 ∧
    ({ start with turns := [.srcWrite 0#32 7#8] } : State).params.legal = true := by decide

/-- A delay of two ticks, seen before and after the second; and a delay of none. -/
theorem witness_DelayCountsExactlyItsTicks : (∀ m ∈ [1, 2],
    let s := { running [.delay 2, .done] 0 with
      turns := Turn.sequencer :: (List.replicate m Turn.tick ++ Turn.sequencer :: []) }
    s.params.legal = true ∧ s.pins.rstN = true ∧ s.seqBusy = true ∧ s.acts[s.pc]? = some (.delay 2) ∧
    s.delayOn = false ∧ s.gateWait = false ∧ 0 < 2 ∧ 2 < 2 ^ 32 ∧ m ≤ 2) ∧
    let z := { running [.delay 0, .done] 0 with turns := [Turn.sequencer] }
    z.params.legal = true ∧ z.pins.rstN = true ∧ z.seqBusy = true ∧ z.acts[z.pc]? = some (.delay 0) ∧
    z.delayOn = false ∧ z.gateWait = false ∧ z.turns = [.sequencer] := by decide

/-- A lone command, the command of a burst and the closing wait, each held in the gate. -/
theorem witness_StuckBusyLineHangs : ∀ a ∈ [Action.cmd 0xFF#8, .burstCmd .lut 0x32#8 false, .waitBusy],
    let s : State := { running [a, .done] 0 with
      busyS := true, gateWait := true, turns := [Turn.tick, Turn.sequencer, Turn.tick] }
    s.params.legal = true ∧ s.pins.rstN = true ∧ s.seqBusy = true ∧ s.acts[s.pc]? = some a ∧ a.isGated = true ∧
    s.txq = none ∧ s.delayOn = false ∧ s.busyS = true ∧ s.gateWait = true ∧
    ∀ t ∈ s.turns, t = Turn.sequencer ∨ t = Turn.tick := by decide

/-- Each of the actions at the cursor, and PDONE both ways. -/
theorem witness_AwaitPageHoldsUntilPageDone :
    (∀ a ∈ [Action.awaitPage, .raisePageReq, .setCursor 4#8, .setPhase .poff, .setRst false, .preclear, .waitBusy, .done],
      let s := running [a] 0
      s.params.legal = true ∧ s.pins.rstN = true ∧ s.seqBusy = true ∧ s.turn = .sequencer ∧ s.acts[s.pc]? = some a) ∧
    paged.acts[paged.pc]? = some .awaitPage ∧ paged.pdone = false ∧
    ({ paged with pdone := true, pageReq := false } : State).pdone = true := by decide

theorem witness_BlockResetLeavesTheResetValues :
    let s := fun (high : Bool) (t : Turn) => { paged with turns := [t], pins := { paged.pins with rstN := high } }
    (∀ high, ∀ t ∈ [Turn.rstN false, .rstN true, .sequencer, .host ⟨true, 0#17, 0x4#32⟩, .host ⟨true, 8#17, 0x4#32⟩],
      (s high t).params.legal = true ∧ (s high t).pins.rstN = high ∧ (s high t).turns = [t] ∧ (s high t).turn = t) ∧
    (s false .sequencer).turn = .sequencer ∧
    let low := fun t : Turn => { start with turns := [t], pins := { start.pins with rstN := false, sReq := none } }
    ∀ t ∈ [Turn.tick, .sequencer, .busyIn true, .srcWrite 0#32 7#8, .txReady false, .sAck false, .rstN false,
        .host ⟨false, 4#17, 0#32⟩, .host ⟨true, 0#17, 0x4#32⟩],
      (low t).turn ≠ .rstN true ∧ (low t).seqBusy = false ∧ (low t).args = ⟨0#32, 0#32, 0#32, 0#32⟩ ∧
      low t = { (low t).blockReset with pins := { (low t).blockReset.pins with rstN := false } } := by decide

/-- The busy line at either level in a running operation, for either active level. -/
theorem witness_StatusAfterReset :
    let s := fun (active level : Bool) =>
      { paged with params := { tiny with busyActive := active }, turns := [.busyIn level] }
    ∀ active level, (s active level).params.legal = true ∧ (s active level).turns = [.busyIn level] ∧
      (s active level).params.busyActive = active := by decide

/-! ### Whole operations -/

/-- The small panel at rest is cooperative. -/
theorem cooperative_start : Cooperative start := ⟨by decide, rfl, rfl, rfl, rfl, rfl⟩

/-- A trigger and a closing wait run from the middle of a sequence. -/
theorem witness_ASequenceSendsExactlyItsItems :
    let as := trigger tiny .full ++ [.waitBusy]
    let s := running ([.setPhase .transfer] ++ as ++ [.done]) 1
    Cooperative s ∧ s.seqBusy = true ∧ s.txq = none ∧ s.gateWait = false ∧ s.srcOld = [] ∧
    s.acts.drop s.pc = as ++ [.done] ∧ as.all (fun a => a.emits || a == .waitBusy || a == .setPhase .trigger) = true :=
  ⟨⟨by decide, rfl, rfl, rfl, rfl, rfl⟩, by decide⟩

theorem witness_EraseWhitensThePanelAndEnds : Cooperative start ∧ Inv start ∧ start.seqBusy = false :=
  ⟨cooperative_start, inv_start, rfl⟩

end Sys2Proof.Tests
end

section
/-! PROOFS. The state: what every step keeps, and what the registers hold (10_state.md). -/

namespace Sys2Proof.Machine

/-! ## The invariant in three parts -/

/-- What `Inv` says of the parameter record and the byte memories (R6, R61). -/
structure MemoryInv (s : State) : Prop where
  legal : s.params.legal = true
  fbWf : s.fb.wf
  fbInStore : ∀ c ∈ s.fb, c.1 < s.params.fbBytes
  srcWf : s.src.wf

/-- What `Inv` says of the course of an operation (R48.1, R48.3, R31, R190, R280). -/
structure CourseInv (s : State) : Prop where
  idle : s.seqBusy = false → s.phase = .idle ∧ s.acts = [] ∧ s.pc = 0
  running : s.seqBusy = true →
    wellPhased s.params s.latched.lOp s.phase s.pageCursor (s.acts.drop s.pc) = true
  cursor : s.paging = true → s.latched.lOp = 7#4 ∧ s.seqBusy = true
  cursorLegal : s.pageCursor = 0xFF#8 ∨ s.pageCursor.toNat < s.params.pageCount
  inReset : s.pins.rstN = false → s.seqBusy = false

/-- What `Inv` says of the flags, the delay, the item on offer and the source read that belong to the
action at the cursor (R48.2, R43, R29, R44, R45, R65). -/
structure PendingInv (s : State) : Prop where
  request : s.pageReq = true →
    s.seqBusy = true ∧ s.phase = .pageWait ∧ s.paging = true ∧ s.acts[s.pc]? = some .awaitPage
  pageDone : s.pdone = true → s.pageReq = false ∧ s.acts[s.pc]? = some .awaitPage
  gate : s.gateWait = true → s.seqBusy = true ∧ s.txq = none ∧ s.atAction Action.isGated = true
  delay : s.delayOn = true → s.atAction Action.isDelay = true
  offer : s.txq.isSome = true → s.atAction Action.emits = true
  request_source : ∀ a, s.pins.sReq = some a → s.sourceRead = some a

/-- The invariant is its three parts. -/
theorem inv_iff {s : State} : Inv s ↔ MemoryInv s ∧ CourseInv s ∧ PendingInv s :=
  ⟨fun h => ⟨⟨h.legal, h.fbWf, h.fbInStore, h.srcWf⟩,
      ⟨h.idle, h.running, h.cursor, h.cursorLegal, h.inReset⟩,
      ⟨h.request, h.pageDone, h.gate, h.delay, h.offer, h.request_source⟩⟩,
    fun ⟨m, c, p⟩ =>
      { legal := m.legal, fbWf := m.fbWf, fbInStore := m.fbInStore, srcWf := m.srcWf
        idle := c.idle, running := c.running, cursor := c.cursor, cursorLegal := c.cursorLegal
        inReset := c.inReset
        request := p.request, pageDone := p.pageDone, gate := p.gate, delay := p.delay
        offer := p.offer, request_source := p.request_source }⟩

/-! ### The memories -/

section Memories

variable {s t : State}

/-- The memory part speaks of the record and the two memories only. -/
theorem MemoryInv.congr (h : MemoryInv s) (hp : t.params = s.params := by rfl)
    (hf : t.fb = s.fb := by rfl) (hs : t.src = s.src := by rfl) : MemoryInv t :=
  ⟨hp ▸ h.legal, hf ▸ h.fbWf, by rw [hf, hp]; exact h.fbInStore, hs ▸ h.srcWf⟩

/-- A framebuffer write inside the store keeps the memory part (R61). -/
theorem MemoryInv.writeFb (h : MemoryInv s) {i : Nat} (hi : i < s.params.fbBytes) (v : Byte) :
    MemoryInv (s.writeFb i v) where
  legal := h.legal
  fbWf := Memory.write_wf h.fbWf i v
  fbInStore c hc := by
    rcases Memory.mem_write hc with rfl | hc
    · exact hi
    · exact h.fbInStore c hc
  srcWf := h.srcWf

/-- A fill inside the store keeps the memory part (R61, R245, R206). -/
theorem MemoryInv.fillFb (h : MemoryInv s) {n : Nat} (hn : n ≤ s.params.fbBytes) (v : Byte) :
    MemoryInv (s.fillFb n v) where
  legal := h.legal
  fbWf := Memory.fillTo_wf h.fbWf n v
  fbInStore c hc := by
    rcases Memory.mem_fillTo hc with hc | hc
    · exact lt_of_lt_of_le hc hn
    · exact h.fbInStore c hc
  srcWf := h.srcWf

/-- A host write to SRC keeps the memory part (R65). -/
theorem MemoryInv.writeSrc (h : MemoryInv s) (a : Word) (v : Byte) : MemoryInv (s.writeSrc a v) :=
  ⟨h.legal, h.fbWf, h.fbInStore, Memory.write_wf h.srcWf a.toNat v⟩

/-- A pixel's target lies in the store (R242). -/
theorem State.pixelTarget_lt {x y : Int} {i k : Nat} (h : s.pixelTarget x y = some (i, k)) :
    i < s.params.fbBytes := by
  unfold State.pixelTarget at h
  split at h
  · simp only at h
    split at h
    · split at h
      · rename_i hi
        simp only [Option.some.injEq, Prod.mk.injEq] at h
        exact h.1 ▸ hi
      · simp at h
    · simp at h
  · simp at h

/-- SETPIXEL keeps the memory part, whether it paints or drops (R242). -/
theorem MemoryInv.setPixel (h : MemoryInv s) (x y : Int) (c : Half) :
    MemoryInv (s.setPixel x y c) := by
  unfold State.setPixel
  split
  · next ht => exact (h.writeFb (State.pixelTarget_lt ht) _).congr
  · exact h.congr

end Memories

/-! ### The course of an operation -/

/-- The fields that the course part of the invariant reads. -/
def State.course (s : State) : State :=
  { State.reset with
    params := s.params, latched := s.latched, phase := s.phase, pageCursor := s.pageCursor
    acts := s.acts, pc := s.pc, seqBusy := s.seqBusy
    pins := { State.reset.pins with rstN := s.pins.rstN } }

/-- The course part speaks of these fields only. -/
theorem CourseInv.congr {s t : State} (h : CourseInv s) (ht : t.course = s.course := by rfl) :
    CourseInv t := by
  have hs : CourseInv s.course := ⟨h.idle, h.running, h.cursor, h.cursorLegal, h.inReset⟩
  rw [← ht] at hs
  exact ⟨hs.idle, hs.running, hs.cursor, hs.cursorLegal, hs.inReset⟩

/-- Where nothing runs no page is set (R48.3). -/
theorem CourseInv.pageCursor_of_idle {s : State} (h : CourseInv s) (hl : s.params.legal = true)
    (hb : s.seqBusy = false) : s.pageCursor = 0xFF#8 := by
  obtain ⟨-, -, -, -, -, -, hpc, -⟩ := Params.legal_geometry hl
  rcases h.cursorLegal with hc | hc
  · exact hc
  · have hp : s.paging = true := by
      simp only [State.paging, BitVec.msb_eq_decide, Bool.not_eq_true', decide_eq_false_iff_not]
      omega
    simp [(h.cursor hp).2] at hb

/-! ### What belongs to the action at the cursor -/

/-- Nothing is requested, waited for or on offer. -/
structure Calm (s : State) : Prop where
  pageReq : s.pageReq = false
  pdone : s.pdone = false
  gateWait : s.gateWait = false
  delayOn : s.delayOn = false
  txq : s.txq = none
  sReq : s.pins.sReq = none

/-- A calm state has the pending part, wherever the cursor stands. -/
theorem Calm.pendingInv {s : State} (h : Calm s) : PendingInv s where
  request hr := by simp [h.pageReq] at hr
  pageDone hd := by simp [h.pdone] at hd
  gate hg := by simp [h.gateWait] at hg
  delay hd := by simp [h.delayOn] at hd
  offer ho := by simp [h.txq] at ho
  request_source a ha := by simp [h.sReq] at ha

/-- The fields that the pending part of the invariant reads. -/
def State.pending (s : State) : State :=
  { s.course with
    pageReq := s.pageReq, pdone := s.pdone, gateWait := s.gateWait, delayOn := s.delayOn, txq := s.txq
    pins := { State.reset.pins with sReq := s.pins.sReq } }

/-- The pending part speaks of these fields only. -/
theorem PendingInv.congr {s t : State} (h : PendingInv s) (ht : t.pending = s.pending := by rfl) :
    PendingInv t := by
  have hs : PendingInv s.pending :=
    ⟨h.request, h.pageDone, h.gate, h.delay, h.offer, h.request_source⟩
  rw [← ht] at hs
  exact ⟨hs.request, hs.pageDone, hs.gate, hs.delay, hs.offer, hs.request_source⟩

/-- A source read is due only at a `Pix` from SRC (R65). -/
theorem State.sourceRead_isSome {s : State} {a : Word} (h : s.sourceRead = some a) :
    ∃ r c, s.acts[s.pc]? = some (.pix .bmp r c) := by
  unfold State.sourceRead at h
  split at h
  · next r c hp => exact ⟨r, c, hp⟩
  · simp at h

/-- Away from a `Pix` from SRC no source read is on request (R65). -/
theorem PendingInv.sReq_eq_none {s : State} (h : PendingInv s)
    (hn : ∀ r c, s.acts[s.pc]? ≠ some (.pix .bmp r c)) : s.pins.sReq = none := by
  cases hr : s.pins.sReq with
  | none => rfl
  | some a =>
    obtain ⟨r, c, hp⟩ := State.sourceRead_isSome (h.request_source a hr)
    exact absurd hp (hn r c)

/-- Where nothing runs the state is calm (R48). -/
theorem PendingInv.calm_of_idle {s : State} (h : PendingInv s) (hc : CourseInv s)
    (hb : s.seqBusy = false) : Calm s := by
  obtain ⟨-, ha, -⟩ := hc.idle hb
  have hat : ∀ q, s.atAction q = false := by simp [State.atAction, ha]
  constructor
  · by_contra hr; simp [h.request (by simpa using hr)] at hb
  · by_contra hd; simpa [ha] using (h.pageDone (by simpa using hd)).2
  · by_contra hg; simp [h.gate (by simpa using hg)] at hb
  · by_contra hd; simpa [hat] using h.delay (by simpa using hd)
  · by_contra ho; simpa [hat] using h.offer (Option.isSome_iff_ne_none.2 ho)
  · exact h.sReq_eq_none (by simp [ha])

/-- What is not pending at a given action: each thing pending belongs to one kind of action. -/
structure PendingAt (s : State) (a : Action) : Prop where
  pageReq : a ≠ .awaitPage → s.pageReq = false
  pdone : a ≠ .awaitPage → s.pdone = false
  gateWait : a.isGated = false → s.gateWait = false
  delayOn : a.isDelay = false → s.delayOn = false
  txq : a.emits = false → s.txq = none
  sReq : a.isPix = false → s.pins.sReq = none

/-- The pending part says what is not pending at the action at the cursor. -/
theorem PendingInv.at {s : State} (h : PendingInv s) {a : Action} (ha : s.acts[s.pc]? = some a) :
    PendingAt s a where
  pageReq hw := by
    by_contra hr
    obtain ⟨-, -, -, hact⟩ := h.request (by simpa using hr)
    exact hw (by simpa [ha] using hact)
  pdone hw := by
    by_contra hd
    obtain ⟨-, hact⟩ := h.pageDone (by simpa using hd)
    exact hw (by simpa [ha] using hact)
  gateWait hn := by
    by_contra hg
    obtain ⟨-, -, hat⟩ := h.gate (by simpa using hg)
    simp [State.atAction, ha, hn] at hat
  delayOn hn := by
    by_contra hd
    simpa [State.atAction, ha, hn] using h.delay (by simpa using hd)
  txq hn := by
    by_contra ho
    simpa [State.atAction, ha, hn] using h.offer (Option.isSome_iff_ne_none.2 ho)
  sReq hn := h.sReq_eq_none fun r c hp => by
    rw [ha, Option.some.injEq] at hp
    simp [hp, Action.isPix] at hn

/-- Only a `Pix` reads a SRC byte (R65). -/
theorem State.sourceRead_eq_none {s : State} {a : Action} (ha : s.acts[s.pc]? = some a)
    (hx : a.isPix = false) : s.sourceRead = none := by
  by_contra hn
  obtain ⟨b, hb⟩ := Option.ne_none_iff_exists'.1 hn
  obtain ⟨r, c, hp⟩ := State.sourceRead_isSome hb
  rw [ha, Option.some.injEq] at hp
  simp [hp, Action.isPix] at hx

/-- The state is calm at an action that waits for nothing and sends nothing. -/
theorem PendingAt.calm {s : State} {a : Action} (h : PendingAt s a) (hw : a ≠ .awaitPage)
    (hg : a.isGated = false) (hd : a.isDelay = false) (he : a.emits = false) (hx : a.isPix = false) :
    Calm s :=
  ⟨h.pageReq hw, h.pdone hw, h.gateWait hg, h.delayOn hd, h.txq he, h.sReq hx⟩

/-! ## What a gated action or an item can do -/

/-- The gate opens, with GATE_WAIT clear, or holds, with GATE_WAIT set; only the poll count is
otherwise touched (R141). -/
theorem State.gate_outcome (s : State) (k : State → State) :
    (∃ n, s.gate k = k { s with gateWait := false, pollTicks := n })
      ∨ ∃ n, s.gate k = { s with gateWait := true, pollTicks := n } := by
  rcases s.gate_cases k with ⟨hg, -, h⟩ | ⟨-, -, -, h⟩ | ⟨-, -, h⟩ | ⟨hg, -, -, h⟩ | ⟨hg, -, h⟩
  · exact .inl ⟨s.pollTicks, by rw [h, ← hg]⟩
  · exact .inl ⟨0, h⟩
  · exact .inr ⟨0, h⟩
  · exact .inr ⟨0, by rw [h, ← hg]⟩
  · exact .inr ⟨s.pollTicks, by rw [h, ← hg]⟩

/-- Sending an item completes the action, leaves the item on offer, or is held in the gate, where the
gate can be waited in by a command with nothing on offer only (R142, R145, R148). -/
theorem State.send_outcome {s : State} {gated : Bool}
    (hg : s.gateWait = true → s.txq = none ∧ gated = true) (it : BusItem) :
    (∃ o n, s.send gated it = { s.consume o with gateWait := false, pollTicks := n })
      ∨ (∃ o n, s.send gated it = { s with txq := some o, gateWait := false, pollTicks := n })
      ∨ (gated = true ∧ s.txq = none ∧
          ∃ n, s.send gated it = { s with gateWait := true, pollTicks := n }) := by
  have hemit : ∀ n, (∃ o n', ({ s with gateWait := false, pollTicks := n } : State).emit it
          = { s.consume o with gateWait := false, pollTicks := n' })
      ∨ (∃ o n', ({ s with gateWait := false, pollTicks := n } : State).emit it
          = { s with txq := some o, gateWait := false, pollTicks := n' }) := by
    intro n
    rcases State.emit_cases { s with gateWait := false, pollTicks := n } it with ⟨-, h⟩ | ⟨-, h⟩
    · exact .inl ⟨it, n, h⟩
    · exact .inr ⟨it, n, h⟩
  rcases s.send_cases gated it with ⟨hq, hgt, h⟩ | ⟨-, hgt, h⟩ | ⟨o, hq, -, h⟩ | ⟨o, hq, -, h⟩
  · rcases s.gate_outcome (·.emit it) with ⟨n, hn⟩ | ⟨n, hn⟩
    · rw [h, hn]
      exact (hemit n).imp_right .inl
    · exact .inr (.inr ⟨hgt, hq, n, h.trans hn⟩)
  · have hw : s.gateWait = false := by simpa [hgt] using hg
    rw [h, show s = { s with gateWait := false, pollTicks := s.pollTicks } by rw [← hw]]
    exact (hemit s.pollTicks).imp_right .inl
  · have hw : s.gateWait = false := by simpa [hq] using hg
    exact .inl ⟨o, s.pollTicks, by rw [h, ← hw]; rfl⟩
  · have hw : s.gateWait = false := by simpa [hq] using hg
    exact .inr (.inl ⟨o, s.pollTicks, by rw [h, ← hw, ← hq]⟩)

/-- A delay's step completes it, with nothing left counting, or leaves DCNT counting (R149). -/
theorem State.delayStep_outcome (s : State) (n : Nat) :
    (∃ c, s.delayStep n = { s.advance with delayOn := false, dcnt := c })
      ∨ ∃ c, s.delayStep n = { s with delayOn := true, dcnt := c } := by
  unfold State.delayStep
  split
  · next hon =>
    split
    · exact .inl ⟨s.dcnt, rfl⟩
    · exact .inr ⟨s.dcnt, by rw [← hon]⟩
  · next hoff =>
    split
    · exact .inl ⟨0#32, by rw [← Bool.eq_false_iff.2 hoff]; rfl⟩
    · exact .inr ⟨BitVec.ofNat 32 n, rfl⟩

/-- A state with what the gate and the transport handshake write blanked out: pc, GATE_WAIT, the poll
count, the item on offer and the trace. -/
def State.sansSending (s : State) : State :=
  { s with pc := 0, gateWait := false, pollTicks := 0, txq := none, trace := [] }

/-- An emission writes nothing else (R145). -/
theorem State.emit_sansSending (s : State) (it : BusItem) : (s.emit it).sansSending = s.sansSending := by
  rcases s.emit_cases it with ⟨-, h⟩ | ⟨-, h⟩ <;> rw [h] <;> rfl

/-- The gate writes nothing else but what is done behind it (R141). -/
theorem State.gate_sansSending (s : State) {k : State → State}
    (hk : ∀ u : State, (k u).sansSending = u.sansSending) : (s.gate k).sansSending = s.sansSending := by
  rcases s.gate_outcome k with ⟨n, h⟩ | ⟨n, h⟩
  · rw [h, hk]; rfl
  · rw [h]; rfl

/-- Sending an item writes nothing else (R142, R145). -/
theorem State.send_sansSending (s : State) (gated : Bool) (it : BusItem) :
    (s.send gated it).sansSending = s.sansSending := by
  rcases s.send_cases gated it with ⟨-, -, h⟩ | ⟨-, -, h⟩ | ⟨o, -, -, h⟩ | ⟨o, -, -, h⟩ <;> rw [h]
  · exact s.gate_sansSending fun u => u.emit_sansSending it
  · exact s.emit_sansSending it
  · rfl

@[simp] theorem State.send_pins (s : State) (gated : Bool) (it : BusItem) :
    (s.send gated it).pins = s.pins := (congrArg State.pins (s.send_sansSending gated it) :)

@[simp] theorem State.send_draw (s : State) (gated : Bool) (it : BusItem) :
    (s.send gated it).draw = s.draw := (congrArg State.draw (s.send_sansSending gated it) :)

/-! ## The phases along an action list (R190) -/

/-- An action that sets no phase and no page and is no page handshake and no `Done`. -/
def Action.isPlain : Action → Bool
  | .setPhase _ | .setCursor _ | .raisePageReq | .awaitPage | .done => false
  | .cmd _ | .burstCmd _ _ _ | .dat _ _ _ | .pix _ _ _ | .waitBusy | .delay _ | .preclear
  | .setRst _ => true

/-- A plain action leaves the phases as they are. -/
theorem wellPhased_cons_plain (p : Params) (op : BitVec 4) (ph : Phase) (cur : BitVec 8) {a : Action}
    (ha : a.isPlain = true) (as : List Action) :
    wellPhased p op ph cur (a :: as) = wellPhased p op ph cur as := by
  cases a <;> simp_all [Action.isPlain, wellPhased]

/-- So do plain actions in a row. -/
theorem wellPhased_append_plain (p : Params) (op : BitVec 4) (ph : Phase) (cur : BitVec 8)
    {as : List Action} (ha : ∀ a ∈ as, a.isPlain = true) (bs : List Action) :
    wellPhased p op ph cur (as ++ bs) = wellPhased p op ph cur bs := by
  induction as with
  | nil => rfl
  | cons a as ih =>
    rw [List.cons_append, wellPhased_cons_plain _ _ _ _ (ha a List.mem_cons_self),
      ih fun b hb => ha b (List.mem_cons_of_mem a hb)]

/-- An action that emits an item is plain. -/
theorem Action.isPlain_of_emits {a : Action} (h : a.emits = true) : a.isPlain = true := by
  cases a <;> simp_all [Action.isPlain, Action.emits]

/-- What is left of ACTS at a running action: the action, and what is left after it. -/
theorem State.drop_pc {s : State} {a : Action} (ha : s.acts[s.pc]? = some a) :
    s.acts.drop s.pc = a :: s.acts.drop (s.pc + 1) := by
  obtain ⟨hlt, rfl⟩ := List.getElem?_eq_some_iff.1 ha
  exact List.drop_eq_getElem_cons hlt

/-- The phases of the action at the cursor and of those after it. -/
theorem CourseInv.wellPhased_cons {s : State} (h : CourseInv s) (hb : s.seqBusy = true) {a : Action}
    (ha : s.acts[s.pc]? = some a) :
    wellPhased s.params s.latched.lOp s.phase s.pageCursor (a :: s.acts.drop (s.pc + 1)) = true := by
  rw [← State.drop_pc ha]
  exact h.running hb

/-- A step past the action at the cursor that may write PHASE keeps the course part where the actions
left keep to R190 from there. -/
theorem CourseInv.advance {s : State} (h : CourseInv s) (hb : s.seqBusy = true) {ph : Phase}
    (hw : wellPhased s.params s.latched.lOp ph s.pageCursor (s.acts.drop (s.pc + 1)) = true) :
    CourseInv { s.advance with phase := ph } where
  idle hi := by simp [hb] at hi
  running _ := hw
  cursor := h.cursor
  cursorLegal := h.cursorLegal
  inReset hr := h.inReset hr

/-- A plain action's completion keeps the course part. -/
theorem CourseInv.advance_plain {s : State} (h : CourseInv s) (hb : s.seqBusy = true) {a : Action}
    (ha : s.acts[s.pc]? = some a) (hp : a.isPlain = true) : CourseInv s.advance :=
  h.advance hb (wellPhased_cons_plain _ _ _ _ hp _ ▸ h.wellPhased_cons hb ha)

/-! ## Each action keeps the invariant (R23) -/

section Actions

variable {s : State} {a : Action}

/-- The item an action sends, consumed, on offer or held in the gate, with no source read left on
request. -/
theorem inv_send (h : Inv s) (hb : s.seqBusy = true) (ha : s.acts[s.pc]? = some a)
    (he : a.emits = true) (it : BusItem) (d : Nat) :
    Inv { s.send a.isGated it with
      pins := { (s.send a.isGated it).pins with sReq := none }, draw := d } := by
  obtain ⟨hm, hc, hp⟩ := inv_iff.1 h
  have hat := hp.at ha
  have hw : a ≠ .awaitPage := by rintro rfl; simp [Action.emits] at he
  have hr := hat.pageReq hw
  have hd := hat.pdone hw
  have hdl := hat.delayOn (by cases a <;> simp_all [Action.isDelay, Action.emits])
  have hg : s.gateWait = true → s.txq = none ∧ a.isGated = true := by
    intro hon
    refine ⟨(h.gate hon).2.1, ?_⟩
    by_contra hn
    simp [hat.gateWait (by simpa using hn)] at hon
  rcases State.send_outcome hg it with ⟨o, n, hs⟩ | ⟨o, n, hs⟩ | ⟨hag, hq, n, hs⟩ <;>
    rw [hs] <;> refine inv_iff.2 ⟨hm.congr, ?_, ?_⟩
  · exact (hc.advance_plain hb ha (Action.isPlain_of_emits he)).congr
  · exact Calm.pendingInv ⟨hr, hd, rfl, hdl, rfl, rfl⟩
  · exact hc.congr
  · exact
      { request := by simp [hr]
        pageDone := by simp [hd]
        gate := by simp
        delay := by simp [hdl]
        offer := fun _ => by simp [State.atAction, ha, he]
        request_source := by simp }
  · exact hc.congr
  · exact
      { request := by simp [hr]
        pageDone := by simp [hd]
        gate := fun _ => ⟨hb, hq, by simp [State.atAction, ha, hag]⟩
        delay := by simp [hdl]
        offer := by simp [hq]
        request_source := by simp }

/-- So it is where no SRC byte is due, and then the ports are as they were. -/
theorem inv_send_of_no_read (h : Inv s) (hb : s.seqBusy = true) (ha : s.acts[s.pc]? = some a)
    (he : a.emits = true) (hx : s.sourceRead = none) (it : BusItem) : Inv (s.send a.isGated it) := by
  have hr : s.pins.sReq = none := by
    by_contra hr
    obtain ⟨b, hsr⟩ := Option.ne_none_iff_exists'.1 hr
    simpa [hx] using h.request_source b hsr
  have hi := inv_send h hb ha he it s.draw
  rwa [show ({ s.send a.isGated it with
      pins := { (s.send a.isGated it).pins with sReq := none }, draw := s.draw } : State)
      = s.send a.isGated it by rw [← hr, ← s.send_pins a.isGated it, ← s.send_draw a.isGated it]] at hi

/-- A `Pix` goes through the source port: the request held, or the item sent (R65, R196). -/
theorem inv_pix (h : Inv s) (hb : s.seqBusy = true) {src : Source} {r c : Nat}
    (ha : s.acts[s.pc]? = some (.pix src r c)) : Inv (s.actionStep (.pix src r c)) := by
  rcases s.viaSource_cases
      (fun t => t.send false ⟨true, t.pixelByte src r c, true, true⟩) with
    ⟨hr, hv⟩ | ⟨b, -, -, hv⟩ | ⟨b, hr, -, hv⟩ <;> rw [State.actionStep, hv]
  · exact inv_send_of_no_read h hb ha rfl hr _
  · exact inv_send h hb ha rfl _ _
  · obtain ⟨hm, hc, hp⟩ := inv_iff.1 h
    refine inv_iff.2 ⟨hm.congr, hc.congr, hp.request, hp.pageDone, hp.gate, hp.delay, hp.offer, ?_⟩
    rintro _ ⟨⟩
    exact hr

/-- `WaitBusy` passes the gate or waits in it (R141). -/
theorem inv_waitBusy (h : Inv s) (hb : s.seqBusy = true) (ha : s.acts[s.pc]? = some .waitBusy) :
    Inv (s.actionStep .waitBusy) := by
  obtain ⟨hm, hc, hp⟩ := inv_iff.1 h
  have hat := hp.at ha
  have hr := hat.pageReq (by simp)
  have hd := hat.pdone (by simp)
  have hdl := hat.delayOn rfl
  have hq := hat.txq rfl
  have hsr := hat.sReq rfl
  rcases s.gate_outcome State.advance with ⟨n, hn⟩ | ⟨n, hn⟩ <;>
    rw [State.actionStep, hn] <;> refine inv_iff.2 ⟨hm.congr, ?_, ?_⟩
  · exact (hc.advance_plain hb ha rfl).congr
  · exact Calm.pendingInv ⟨hr, hd, rfl, hdl, hq, hsr⟩
  · exact hc.congr
  · exact { hp with gate := fun _ => ⟨hb, hq, by simp [State.atAction, ha, Action.isGated]⟩ }

/-- A delay loads DCNT, waits, or is over (R149). -/
theorem inv_delay (h : Inv s) (hb : s.seqBusy = true) {n : Nat} (ha : s.acts[s.pc]? = some (.delay n)) :
    Inv (s.actionStep (.delay n)) := by
  obtain ⟨hm, hc, hp⟩ := inv_iff.1 h
  have hat := hp.at ha
  rcases s.delayStep_outcome n with ⟨c, hn⟩ | ⟨c, hn⟩ <;> rw [State.actionStep, hn]
  · exact inv_iff.2 ⟨hm.congr, (hc.advance_plain hb ha rfl).congr,
      Calm.pendingInv ⟨hat.pageReq (by simp), hat.pdone (by simp), hat.gateWait rfl, rfl,
        hat.txq rfl, hat.sReq rfl⟩⟩
  · exact inv_iff.2 ⟨hm.congr, hc.congr,
      { hp with delay := fun _ => by simp [State.atAction, ha, Action.isDelay] }⟩

/-- `AwaitPage` waits, or takes the PAGEDONE (R207). -/
theorem inv_awaitPage (h : Inv s) (hb : s.seqBusy = true) (ha : s.acts[s.pc]? = some .awaitPage) :
    Inv (s.actionStep .awaitPage) := by
  simp only [State.actionStep, State.awaitPageStep]
  split
  · next hpd =>
    obtain ⟨hm, hc, hp⟩ := inv_iff.1 h
    have hat := hp.at ha
    have hw := hc.wellPhased_cons hb ha
    simp only [wellPhased, Bool.and_eq_true] at hw
    exact inv_iff.2 ⟨hm.congr, (hc.advance hb hw.2).congr,
      Calm.pendingInv ⟨(hp.pageDone hpd).1, rfl, hat.gateWait rfl, hat.delayOn rfl, hat.txq rfl,
        hat.sReq rfl⟩⟩
  · exact h

/-- `SetPhase` makes the change R190 allows (R191). -/
theorem inv_setPhase (h : Inv s) (hb : s.seqBusy = true) {q : Phase}
    (ha : s.acts[s.pc]? = some (.setPhase q)) : Inv (s.actionStep (.setPhase q)) := by
  obtain ⟨hm, hc, hp⟩ := inv_iff.1 h
  have hcalm := (hp.at ha).calm (by simp) rfl rfl rfl rfl
  have hw := hc.wellPhased_cons hb ha
  simp only [wellPhased, Bool.and_eq_true] at hw
  exact inv_iff.2 ⟨hm.congr, hc.advance hb hw.2, Calm.pendingInv { hcalm with }⟩

/-- `SetCursor` sets -1, or a page of a DRAWPAGED (R206, R31). -/
theorem inv_setCursor (h : Inv s) (hb : s.seqBusy = true) {v : BitVec 8}
    (ha : s.acts[s.pc]? = some (.setCursor v)) : Inv (s.actionStep (.setCursor v)) := by
  obtain ⟨hm, hc, hp⟩ := inv_iff.1 h
  have hcalm := (hp.at ha).calm (by simp) rfl rfl rfl rfl
  have hw := hc.wellPhased_cons hb ha
  simp only [wellPhased, Bool.and_eq_true, Bool.or_eq_true, beq_iff_eq, decide_eq_true_eq] at hw
  obtain ⟨hv, hw⟩ := hw
  refine inv_iff.2 ⟨hm.congr, ?_, Calm.pendingInv { hcalm with }⟩
  exact
    { idle := by simp [State.actionStep, hb]
      running := fun _ => hw
      cursor := fun hpg => by
        rcases hv with rfl | ⟨hop, -⟩
        · exact absurd hpg (by simp [State.actionStep, State.paging, BitVec.msb_eq_decide])
        · exact ⟨hop, hb⟩
      cursorLegal := hv.imp_right And.right
      inReset := hc.inReset }

/-- `Preclear` clears a page's bytes, which the store holds (R206, R6). -/
theorem inv_preclear (h : Inv s) (hb : s.seqBusy = true) (ha : s.acts[s.pc]? = some .preclear) :
    Inv (s.actionStep .preclear) := by
  obtain ⟨hm, hc, hp⟩ := inv_iff.1 h
  have hcalm := (hp.at ha).calm (by simp) rfl rfl rfl rfl
  obtain ⟨-, -, -, -, -, -, -, -, -, -, hle⟩ := Params.legal_geometry hm.legal
  exact inv_iff.2 ⟨(hm.fillFb hle _).congr, (hc.advance_plain hb ha rfl).congr,
    Calm.pendingInv { hcalm with }⟩

/-- `RaisePageReq` raises PAGE_REQ in PAGE_WAIT with a page set, just before its `AwaitPage` (R207). -/
theorem inv_raisePageReq (h : Inv s) (hb : s.seqBusy = true) (ha : s.acts[s.pc]? = some .raisePageReq) :
    Inv (s.actionStep .raisePageReq) := by
  obtain ⟨hm, hc, hp⟩ := inv_iff.1 h
  obtain ⟨hr, hd, hg, hdl, hq, hsr⟩ := (hp.at ha).calm (by simp) rfl rfl rfl rfl
  have hw := hc.wellPhased_cons hb ha
  simp only [wellPhased, Bool.and_eq_true, beq_iff_eq, List.head?_drop] at hw
  obtain ⟨⟨⟨hph, hcur⟩, hnext⟩, hw⟩ := hw
  refine inv_iff.2 ⟨hm.congr, (hc.advance hb hw).congr, ?_⟩
  exact
    { request := fun _ => ⟨hb, hph, hcur, hnext⟩
      pageDone := by simp [State.actionStep, hd]
      gate := by simp [State.actionStep, hg]
      delay := by simp [State.actionStep, hdl]
      offer := by simp [State.actionStep, hq]
      request_source := by simp [State.actionStep, hsr] }

/-- `Done` ends the operation with nothing pending and the cursor at -1 (R201, R48). -/
theorem inv_done (h : Inv s) (hb : s.seqBusy = true) (ha : s.acts[s.pc]? = some .done) :
    Inv (s.actionStep .done) := by
  obtain ⟨hm, hc, hp⟩ := inv_iff.1 h
  obtain ⟨hr, hd, -, hdl, hq, hsr⟩ := (hp.at ha).calm (by simp) rfl rfl rfl rfl
  have hw := hc.wellPhased_cons hb ha
  simp only [wellPhased, Bool.and_eq_true, beq_iff_eq] at hw
  obtain ⟨⟨-, hcur⟩, -⟩ := hw
  refine inv_iff.2 ⟨hm.congr, ?_, Calm.pendingInv ⟨hr, hd, rfl, hdl, hq, hsr⟩⟩
  exact
    { idle := fun _ => ⟨rfl, rfl, rfl⟩
      running := by simp [State.actionStep]
      cursor := by simp [State.actionStep, State.paging, hcur, BitVec.msb_eq_decide]
      cursorLegal := .inl hcur
      inReset := fun _ => rfl }

/-- Every action keeps the invariant, whether it completes or holds. -/
theorem inv_actionStep (h : Inv s) (hb : s.seqBusy = true) (ha : s.acts[s.pc]? = some a) :
    Inv (s.actionStep a) := by
  have hsr := fun hx => State.sourceRead_eq_none (s := s) ha hx
  cases a with
  | cmd b => exact inv_send_of_no_read h hb ha rfl (hsr rfl) _
  | burstCmd of b last => exact inv_send_of_no_read h hb ha rfl (hsr rfl) _
  | dat b first last => exact inv_send_of_no_read h hb ha rfl (hsr rfl) _
  | pix src r c => exact inv_pix h hb ha
  | waitBusy => exact inv_waitBusy h hb ha
  | delay n => exact inv_delay h hb ha
  | setPhase q => exact inv_setPhase h hb ha
  | setCursor v => exact inv_setCursor h hb ha
  | preclear => exact inv_preclear h hb ha
  | raisePageReq => exact inv_raisePageReq h hb ha
  | awaitPage => exact inv_awaitPage h hb ha
  | setRst l =>
    obtain ⟨hm, hc, hp⟩ := inv_iff.1 h
    have hcalm := (hp.at ha).calm (by simp) rfl rfl rfl rfl
    exact inv_iff.2 ⟨hm.congr, (hc.advance_plain hb ha rfl).congr, Calm.pendingInv { hcalm with }⟩
  | done => exact inv_done h hb ha

/-- The sequencer's turn keeps the invariant (R23). -/
theorem inv_sequencerStep (h : Inv s) : Inv s.sequencerStep := by
  unfold State.sequencerStep
  split
  · next hb =>
    rw [Bool.and_eq_true] at hb
    split
    · next a ha => exact inv_actionStep h hb.1 ha
    · exact h
  · exact h

end Actions

/-! ## The sequences of `expand` keep to R190 -/

section Sequences

variable (p : Params) (op : BitVec 4) (cur : BitVec 8)

/-- SetRamArea and SetRamPointer are plain (R168, R169). -/
theorem isPlain_of_mem_addressing {w : Window} {a : Action}
    (h : a ∈ setRamArea p w ++ setRamPointer p w) : a.isPlain = true := by
  revert a
  simp [setRamArea, setRamPointer, dataAct, Action.isPlain]

/-- A control pair is plain (R193). -/
theorem isPlain_of_mem_controlPair {c : Byte} {a : Action} (h : a ∈ controlPair c) :
    a.isPlain = true := by
  revert a
  simp [controlPair, dataAct, Action.isPlain]

/-- The phase of a power-on in a mode (R191). -/
def LutMode.ponPhase : LutMode → Phase
  | .full => .ponFull
  | .part => .ponPart

/-- The power-on phase sets its PHASE and is plain after that (R191). -/
theorem wellPhased_powerOn (m : LutMode) (w : Window) (as : List Action) :
    wellPhased p op .idle cur (powerOnPhase p m w ++ as)
      = wellPhased p op m.ponPhase cur as := by
  have hplain : ∀ a ∈ InitStep.all.flatMap (initBurst p) ++ (setRamArea p w ++ setRamPointer p w)
      ++ loadLut p m ++ controlPair p.pwrOnCtrl, a.isPlain = true := by
    intro a ha
    rw [List.mem_append, List.mem_append, List.mem_append] at ha
    rcases ha with ((ha | ha) | ha) | ha
    · obtain ⟨k, -, hk⟩ := List.mem_flatMap.1 ha
      exact Action.isPlain_of_emits (emits_of_mem_burst hk)
    · exact isPlain_of_mem_addressing p ha
    · exact Action.isPlain_of_emits (emits_of_mem_burst ha)
    · exact isPlain_of_mem_controlPair ha
  have hshape : powerOnPhase p m w ++ as
      = .setPhase m.ponPhase
        :: (InitStep.all.flatMap (initBurst p) ++ (setRamArea p w ++ setRamPointer p w)
          ++ loadLut p m ++ controlPair p.pwrOnCtrl ++ as) := by
    cases m <;> simp [powerOnPhase, LutMode.ponPhase]
  rw [hshape, wellPhased, wellPhased_append_plain p op _ cur hplain]
  cases m <;> rfl

/-- A phase that may pass to another, or is it already. -/
def phaseMay (ph q : Phase) : Bool := q == ph || phaseEdge ph q

/-- A transfer sets TRANSFER and is plain after that (R196). -/
theorem wellPhased_transfer {ph : Phase} (h : phaseMay ph .transfer = true) (w : Window) (src : Source)
    (as : List Action) :
    wellPhased p op ph cur (transfer w src ++ as) = wellPhased p op .transfer cur as := by
  have hplain : ∀ a ∈ .cmd 0x24#8 :: pixStream w src, a.isPlain = true := by
    intro a ha
    rcases List.mem_cons.1 ha with rfl | ha
    · rfl
    · obtain ⟨r, c, rfl⟩ := isPix_of_mem_pixStream ha
      rfl
  have hshape : transfer w src ++ as
      = .setPhase .transfer :: ((.cmd 0x24#8 :: pixStream w src) ++ as) := by simp [transfer]
  rw [hshape, wellPhased, wellPhased_append_plain p op _ cur hplain]
  simp only [phaseMay] at h
  simp [h]

/-- A trigger after a transfer sets TRIGGER (R198). -/
theorem wellPhased_trigger (m : LutMode) (as : List Action) :
    wellPhased p op .transfer cur (trigger p m ++ as) = wellPhased p op .trigger cur as := by
  have hshape : trigger p m ++ as
      = .setPhase .trigger :: (controlPair (updCtrl p m) ++ (.cmd 0xFF#8 :: as)) := by simp [trigger]
  rw [hshape, wellPhased, wellPhased_append_plain p op _ cur fun _ => isPlain_of_mem_controlPair]
  rfl

/-- The power-off phase ends an operation with no page set (R200). -/
theorem wellPhased_powerOff {ph : Phase} (h : phaseEdge ph .poff = true) :
    wellPhased p op ph 0xFF#8 (powerOffPhase p) = true := by
  have hne : (Phase.poff != .idle) = true := rfl
  have hend : phaseEdge .poff .idle = true := rfl
  simp [powerOffPhase, controlPair, dataAct, wellPhased, h, hne, hend]

/-- The phase a window pass ends in (R205). -/
def windowPassEnd : Phase := if p.winPass2Trigger then .trigger else .transfer

/-- A window pass is legal from every phase that may pass to TRANSFER (R205). -/
theorem wellPhased_windowPass {ph : Phase} (h : phaseMay ph .transfer = true) (w : Window) (src : Source)
    (as : List Action) :
    wellPhased p op ph cur (windowPass p w src ++ as) = wellPhased p op (windowPassEnd p) cur as := by
  have hsettle : ∀ bs, wellPhased p op .trigger cur
      ([.setPhase .settle, .delay p.settleMs, .setPhase .transfer] ++ bs)
        = wellPhased p op .transfer cur bs := fun _ => rfl
  have hshape : windowPass p w src ++ as
      = transfer w src ++ (trigger p .part
        ++ ([.setPhase .settle, .delay p.settleMs, .setPhase .transfer]
        ++ ((setRamArea p w ++ setRamPointer p w) ++ (transfer w src
        ++ ((if p.winPass2Trigger then trigger p .part else []) ++ as))))) := by
    simp [windowPass]
  rw [hshape, wellPhased_transfer p op cur h, wellPhased_trigger, hsettle,
    wellPhased_append_plain p op _ cur fun _ => isPlain_of_mem_addressing p,
    wellPhased_transfer p op cur rfl]
  unfold windowPassEnd
  split
  · exact wellPhased_trigger p op cur .part as
  · rfl

/-- The sequence of a full-window pass keeps to R190 (R202, R203, R208). -/
theorem wellPhased_fullPassSeq (m : LutMode) (src : Source) :
    wellPhased p op .idle 0xFF#8 (fullPassSeq p m src) = true := by
  have hshape : fullPassSeq p m src = powerOnPhase p m (fullWindow p)
      ++ (transfer (fullWindow p) src ++ (trigger p m ++ powerOffPhase p)) := by simp [fullPassSeq]
  rw [hshape, wellPhased_powerOn, wellPhased_transfer p op _ (by cases m <;> rfl), wellPhased_trigger]
  exact wellPhased_powerOff p op rfl

/-- The phase after a window pass may pass to POFF and to PAGE_WAIT. -/
theorem phaseEdge_windowPassEnd :
    phaseEdge (windowPassEnd p) .poff = true ∧ phaseEdge (windowPassEnd p) .pageWait = true := by
  unfold windowPassEnd
  split <;> exact ⟨rfl, rfl⟩

/-- UPDATEWINDOW's sequence keeps to R190 (R204). -/
theorem wellPhased_windowSeq (w : Window) :
    wellPhased p op .idle 0xFF#8 (windowSeq p w) = true := by
  have hshape : windowSeq p w
      = powerOnPhase p .part w ++ (windowPass p w .fb ++ powerOffPhase p) := by simp [windowSeq]
  rw [hshape, wellPhased_powerOn, wellPhased_windowPass p op _ rfl]
  exact wellPhased_powerOff p op (phaseEdge_windowPassEnd p).1

/-- INIT's sequence keeps to R190 (R123). -/
theorem wellPhased_initSeq : wellPhased p op .idle cur (initSeq p) = true := by
  unfold initSeq
  split <;> simp [wellPhased, phaseEdge]

/-- A page below `PAGE_COUNT` is a non-negative cursor (R6, R31). -/
theorem pageCursor_of_lt {k : Nat} (hl : p.legal = true) (hk : k < p.pageCount) :
    (BitVec.ofNat 8 k).toNat = k ∧ (BitVec.ofNat 8 k).msb = false := by
  obtain ⟨-, -, -, -, -, -, hpc, -⟩ := Params.legal_geometry hl
  have hn : (BitVec.ofNat 8 k).toNat = k := by simp; omega
  refine ⟨hn, ?_⟩
  rw [BitVec.msb_eq_decide, hn, decide_eq_false_iff_not]
  omega

/-- A page's part of DRAWPAGED sets that page and ends as its window pass does (R206). -/
theorem wellPhased_pagePass {ph : Phase} (hl : p.legal = true) (h : phaseEdge ph .pageWait = true)
    {k : Nat} (hk : k < p.pageCount) (as : List Action) :
    wellPhased p 7#4 ph cur (pagePass p k ++ as)
      = wellPhased p 7#4 (windowPassEnd p) (BitVec.ofNat 8 k) as := by
  obtain ⟨hn, hmsb⟩ := pageCursor_of_lt p hl hk
  obtain ⟨pre, hpre, hshape⟩ : ∃ pre : List Action, (∀ a ∈ pre, a.isPlain = true) ∧ pagePass p k ++ as
      = [.setPhase .pageWait, .setCursor (BitVec.ofNat 8 k)] ++ (pre
        ++ ([.raisePageReq, .awaitPage, .setPhase .transfer]
        ++ ((setRamArea p (pageWindow p k) ++ setRamPointer p (pageWindow p k))
        ++ (windowPass p (pageWindow p k) .page ++ as)))) := by
    cases hp : p.pagePreclear with
    | white => exact ⟨[.preclear], by simp [Action.isPlain], by simp [pagePass, hp]⟩
    | retain => exact ⟨[], by simp, by simp [pagePass, hp]⟩
  have hhand : ∀ bs, wellPhased p 7#4 .pageWait (BitVec.ofNat 8 k)
      ([.raisePageReq, .awaitPage, .setPhase .transfer] ++ bs)
        = wellPhased p 7#4 .transfer (BitVec.ofNat 8 k) bs := fun bs => by
    simp [wellPhased, phaseEdge, hmsb]
  have hset : ∀ bs, wellPhased p 7#4 ph cur
      ([.setPhase .pageWait, .setCursor (BitVec.ofNat 8 k)] ++ bs)
        = wellPhased p 7#4 .pageWait (BitVec.ofNat 8 k) bs := fun bs => by
    simp only [List.cons_append, List.nil_append, wellPhased, h, hn]
    simp [hk]
  rw [hshape, hset, wellPhased_append_plain p _ _ _ hpre, hhand,
    wellPhased_append_plain p _ _ _ fun _ => isPlain_of_mem_addressing p, wellPhased_windowPass p _ _ rfl]

/-- The parts for the pages still to come, and the end of DRAWPAGED's sequence, keep to R190 (R206). -/
theorem wellPhased_pages (hl : p.legal = true) {ks : List Nat} (hk : ∀ k ∈ ks, k < p.pageCount) {ph : Phase}
    (hw : phaseEdge ph .pageWait = true) (ho : ks = [] → phaseEdge ph .poff = true) :
    wellPhased p 7#4 ph cur (ks.flatMap (pagePass p) ++ (.setCursor 0xFF#8 :: powerOffPhase p)) = true := by
  induction ks generalizing ph cur with
  | nil => simpa [wellPhased] using wellPhased_powerOff p 7#4 (ho rfl)
  | cons k ks ih =>
    rw [List.flatMap_cons, List.append_assoc, wellPhased_pagePass p cur hl hw (hk k List.mem_cons_self)]
    exact ih _ (fun j hj => hk j (List.mem_cons_of_mem k hj)) (phaseEdge_windowPassEnd p).2
      fun _ => (phaseEdge_windowPassEnd p).1

/-- DRAWPAGED's sequence keeps to R190 (R206). -/
theorem wellPhased_pagedSeq (hl : p.legal = true) :
    wellPhased p 7#4 .idle 0xFF#8 (pagedSeq p) = true := by
  obtain ⟨-, -, -, -, -, hpc, -⟩ := Params.legal_geometry hl
  have hshape : pagedSeq p = powerOnPhase p .part (fullWindow p)
      ++ ((List.range p.pageCount).flatMap (pagePass p) ++ (.setCursor 0xFF#8 :: powerOffPhase p)) := by
    simp [pagedSeq]
  rw [hshape, wellPhased_powerOn]
  refine wellPhased_pages p _ hl (fun k => List.mem_range.1) rfl fun h => ?_
  rw [List.range_eq_nil] at h
  omega

/-- The opcodes that start an operation (R120). -/
def startsOperation : Bool :=
  op == 1#4 || op == 4#4 || op == 5#4 || op == 6#4 || op == 7#4 || op == 8#4

/-- Every operation's sequence keeps to R190 from IDLE with no page set (R23). -/
theorem wellPhased_expand (hl : p.legal = true) (l : Latched) (ho : startsOperation l.lOp = true) :
    wellPhased p l.lOp .idle 0xFF#8 (expand p l) = true := by
  unfold expand
  split_ifs with h1 h4 h5 h6 h7 h8
  · exact wellPhased_initSeq p _ _
  · exact wellPhased_fullPassSeq p _ _ _
  · exact wellPhased_fullPassSeq p _ _ _
  · exact wellPhased_windowSeq p _ _
  · rw [h7]; exact wellPhased_pagedSeq p hl
  · exact wellPhased_fullPassSeq p _ _ _
  · simp [startsOperation, h1, h4, h5, h6, h7, h8] at ho

end Sequences

/-! ## Each turn keeps the invariant -/

section Turns

variable {s t : State}

/-- An operation started where nothing runs (R120, R121). -/
theorem inv_startOperation (h : Inv s) (hb : s.seqBusy = false) {op : BitVec 4}
    (ho : startsOperation op = true) (hr : s.pins.rstN = true) (p : Bool) (m : LutMode) :
    Inv (s.startOperation op p m) := by
  obtain ⟨hm, hc, hp⟩ := inv_iff.1 h
  have hcur := hc.pageCursor_of_idle hm.legal hb
  refine inv_iff.2 ⟨hm.congr, ?_, Calm.pendingInv { hp.calm_of_idle hc hb with }⟩
  exact
    { idle := by simp
      running := fun _ => by
        have hw := wellPhased_expand s.params hm.legal (s.latchOperands op p).latched ho
        simpa [(hc.idle hb).1, hcur] using hw
      cursor := by simp [State.paging, hcur, BitVec.msb_eq_decide]
      cursorLegal := .inl hcur
      inReset := by simp [hr] }

/-- An update of fields that no clause reads keeps the invariant. -/
theorem Inv.congr (h : Inv s) (hp : t.pending = s.pending := by rfl) (hc : t.course = s.course := by rfl)
    (hf : t.fb = s.fb := by rfl) (hs : t.src = s.src := by rfl) : Inv t := by
  obtain ⟨m, c, p⟩ := inv_iff.1 h
  exact inv_iff.2 ⟨m.congr (congrArg State.params hc :) hf hs, c.congr hc, p.congr hp⟩

/-- An accepted or rejected request keeps the invariant where its body does. -/
theorem inv_accept (h : Inv s) {cls : RequestClass} {body : State → State}
    (hbody : Inv { s with lastErr := .accepted } → s.rejection cls = none →
      Inv (body { s with lastErr := .accepted })) :
    Inv (s.accept cls body) := by
  rcases s.accept_cases cls body with ⟨c, -, ha⟩ | ⟨hr, ha⟩ <;> rw [ha]
  · exact h.congr
  · exact hbody h.congr hr

/-- An operation is accepted only where nothing runs (R120). -/
theorem State.idle_of_accepted (h : s.rejection .idleOnly = none) : s.seqBusy = false := by
  simpa [State.rejection] using h

/-- The start of an accepted operation. -/
theorem inv_accept_start (h : Inv s) (hr : s.pins.rstN = true) {op : BitVec 4}
    (ho : startsOperation op = true) (p : Bool) (m : LutMode) :
    Inv (s.accept .idleOnly (fun t => t.startOperation op p m)) :=
  inv_accept h fun hi ha => inv_startOperation hi (State.idle_of_accepted ha) ho hr p m

/-- An UPDATEWINDOW that misses the panel latches its operands where nothing runs (R163). -/
theorem inv_latchOperands (h : Inv s) (hb : s.seqBusy = false) (op : BitVec 4) (p : Bool) :
    Inv (s.latchOperands op p) := by
  obtain ⟨hm, hc, hp⟩ := inv_iff.1 h
  refine inv_iff.2 ⟨hm.congr, ?_, Calm.pendingInv { hp.calm_of_idle hc hb with }⟩
  exact
    { idle := hc.idle
      running := by simp [hb]
      cursor := fun hpg => by simpa [hb] using (hc.cursor hpg).2
      cursorLegal := hc.cursorLegal
      inReset := hc.inReset }

/-- A PAGEDONE during a page request hands the page over to the `AwaitPage` at the cursor (R125). -/
theorem inv_pagedone (h : Inv s) (hr : s.pageReq = true) :
    Inv { s with pdone := true, pageReq := false } := by
  obtain ⟨hm, hc, hp⟩ := inv_iff.1 h
  obtain ⟨-, -, -, hact⟩ := hp.request hr
  exact inv_iff.2 ⟨hm.congr, hc.congr,
    { hp with
      request := by simp
      pageDone := fun _ => ⟨rfl, hact⟩ }⟩

/-- The body of SETPIXEL keeps the invariant (R242). -/
theorem inv_setPixel (h : Inv s) (x y : Int) (c : Half) : Inv (s.setPixel x y c) := by
  obtain ⟨hm, hc, hp⟩ := inv_iff.1 h
  have hsame : (s.setPixel x y c).course = s.course ∧ (s.setPixel x y c).pending = s.pending := by
    unfold State.setPixel
    split <;> exact ⟨rfl, rfl⟩
  exact inv_iff.2 ⟨hm.setPixel x y c, hc.congr hsame.1, hp.congr hsame.2⟩

/-- Every request keeps the invariant, accepted or rejected (R120). -/
theorem inv_exec_request (h : Inv s) (hr : s.pins.rstN = true) {i : Instr} (hi : i.isRequest = true)
    (he : exec i s = .next t) : Inv t := by
  cases i with
  | nop => cases he; exact inv_accept h fun h _ => h.congr
  | init => cases he; exact inv_accept_start h hr rfl _ _
  | fill =>
    cases he
    refine inv_accept h fun h _ => ?_
    obtain ⟨hm, hc, hp⟩ := inv_iff.1 h
    exact inv_iff.2 ⟨hm.fillFb le_rfl _, hc.congr, hp.congr⟩
  | setpixel => cases he; exact inv_accept h fun h _ => inv_setPixel h _ _ _
  | update => cases he; exact inv_accept_start h hr rfl _ _
  | drawbitmap p => cases he; exact inv_accept_start h hr rfl _ _
  | updatewindow =>
    cases he
    refine inv_accept h fun h ha => ?_
    have hb := State.idle_of_accepted ha
    split
    · exact (inv_latchOperands h hb 6#4 false).congr
    · exact (inv_startOperation h hb (op := 6#4) rfl hr false .part).congr
  | drawpaged => cases he; exact inv_accept_start h hr rfl _ _
  | erase p => cases he; exact inv_accept_start h hr rfl _ _
  | setrotation => cases he; exact inv_accept h fun h _ => h.congr
  | pagedone =>
    cases he
    refine inv_accept h fun h ha => inv_pagedone h ?_
    by_contra hq
    cases hb : s.seqBusy <;> simp [State.rejection, hb, hq] at ha
  | _ => simp [Instr.isRequest] at hi

/-- A host access that is no request keeps the invariant (R34, R38, R261). -/
theorem inv_hostAccess (h : Inv s) (a : HostAccess) : Inv (s.hostAccess a) := by
  unfold State.hostAccess State.hostWriteReg
  split_ifs
  all_goals exact h.congr

/-- The block reset leaves nothing running and nothing pending (R280). -/
theorem inv_driveRstN (h : Inv s) (level : Bool) : Inv (s.driveRstN level) := by
  obtain ⟨hm, hc, hp⟩ := inv_iff.1 h
  cases level with
  | true =>
    exact inv_iff.2 ⟨hm.congr, { hc with inReset := by simp [State.driveRstN] }, hp.congr⟩
  | false =>
    refine inv_iff.2 ⟨hm.congr, ?_, Calm.pendingInv ⟨rfl, rfl, rfl, rfl, rfl, rfl⟩⟩
    exact
      { idle := fun _ => ⟨rfl, rfl, rfl⟩
        running := by simp [State.driveRstN]
        cursor := by simp [State.driveRstN, State.paging, BitVec.msb_eq_decide]
        cursorLegal := .inl rfl
        inReset := fun _ => rfl }

/-- The other agents' turns keep the invariant (R9). -/
theorem inv_turnEffect (h : Inv s) (tn : Turn) : Inv (s.turnEffect tn) := by
  cases tn with
  | host a => exact inv_hostAccess h a
  | sequencer => exact inv_sequencerStep h
  | busyIn level => exact h.congr
  | txReady level => exact h.congr
  | sAck level => exact h.congr
  | srcWrite a v =>
    obtain ⟨hm, hc, hp⟩ := inv_iff.1 h
    exact inv_iff.2 ⟨hm.writeSrc a v, hc.congr, hp.congr⟩
  | tick => exact h.congr
  | rstN level => exact inv_driveRstN h level

end Turns

end Sys2Proof.Machine

open Sys2Proof Sys2Proof.Machine

/-- Settles O28, by the kinds of turn a step can take and, on the sequencer's, by the action at the cursor. -/
theorem everyStepKeepsTheInvariant : Obligations.EveryStepKeepsTheInvariant := by
  intro s t h hs
  have hpop : Inv s.popTurn := h.congr
  obtain ⟨-, ⟨a, i, -, -, -, hi, hr, -, he⟩ | ⟨a, -, -, rfl⟩ | ⟨-, rfl⟩ | ⟨-, -, rfl⟩⟩ := step_cases hs
  · exact inv_exec_request hpop hr hi he
  · exact inv_hostAccess hpop a
  · exact inv_sequencerStep hpop
  · exact inv_turnEffect hpop s.turn

end

section
namespace Sys2Proof.Machine

/-! ## Fields of a register word -/

/-- The value of a concatenation, the high part in its place. -/
theorem toNat_append_eq {m n : Nat} (x : BitVec m) (y : BitVec n) :
    (x ++ y).toNat = x.toNat * 2 ^ n + y.toNat := by
  rw [BitVec.toNat_append, ← Nat.shiftLeft_add_eq_or_of_lt y.isLt, Nat.shiftLeft_eq]

/-- STATUS by its fields' values (R36). -/
theorem State.status_toNat (s : State) :
    s.status.toNat =
      s.seqBusy.toNat + 2 * s.pageReq.toNat + 4 * s.partialLut.toNat + 8 * s.busyS.toNat
        + 16 * s.clip.toNat + 32 * s.gateWait.toNat + 256 * s.phase.bits.toNat
        + 4096 * s.rotation.toNat + 65536 * s.pageCursor.toNat + 16777216 * s.lastErr.bits.toNat := by
  simp only [State.status, toNat_append_eq, BitVec.toNat_ofBool, BitVec.toNat_ofNat]
  omega

/-! ## Host accesses -/

section HostPort

variable {s : State} {a : HostAccess} {ts : List Turn}

/-- An access beyond CMD presents no request (R35). -/
theorem State.presented_of_offset (h : a.offset ≠ 0) : s.presented a = none := by
  simp [State.presented, h]

/-- A read presents no request (R35). -/
theorem State.presented_of_read (h : a.write = false) : s.presented a = none := by
  simp [State.presented, h]

/-- A step on a host access that presents no request. -/
theorem step_hostAccess (hl : s.params.legal = true) (ht : s.turns = .host a :: ts)
    (hp : s.presented a = none) : step s = .next (State.hostAccess { s with turns := ts } a) := by
  have htn : s.turn = .host a := by simp [State.turn, ht]
  have hf : s.fetch = none := by simp [State.fetch, htn, hp]
  simp only [step, hl, if_true, hf, htn, State.turnEffect]
  rw [State.popTurn, ht, List.tail_cons]

/-- A step on a host read (R34, R280). -/
theorem step_hostRead (hl : s.params.legal = true) (ht : s.turns = .host a :: ts)
    (hw : a.write = false) :
    step s = .next { s with
      turns := ts
      pins := { s.pins with hRdata := if s.pins.rstN then s.hostRead a.offset else 0#32 } } := by
  rw [step_hostAccess hl ht (State.presented_of_read hw)]
  simp only [State.hostAccess, hw, Bool.false_eq_true, if_false]
  rfl

/-- A step on a host write beyond CMD (R34, R280). -/
theorem step_hostWrite (hl : s.params.legal = true) (ht : s.turns = .host a :: ts)
    (hw : a.write = true) (ho : a.offset ≠ 0) :
    step s = .next (if s.pins.rstN then State.hostWriteReg { s with turns := ts } a.offset a.wdata
      else { s with turns := ts }) := by
  rw [step_hostAccess hl ht (State.presented_of_offset ho)]
  simp only [State.hostAccess, hw, if_true, ho, if_false]

/-- An offset beyond CMD that is no ARG register's ignores writes (R34, R36 to R38, R67). -/
theorem State.hostWriteReg_ignored {off : Nat} (h : off < 0x8 ∨ 0x14 < off) (v : Word) :
    s.hostWriteReg off v = s := by
  simp only [State.hostWriteReg, show off ≠ 8 by omega, show off ≠ 0xC by omega,
    show off ≠ 0x10 by omega, show off ≠ 0x14 by omega, if_false]

/-- A step on a host write that is ignored leaves everything but the schedule alone. -/
theorem step_ignoredWrite (hl : s.params.legal = true) (ht : s.turns = .host a :: ts)
    (hw : a.write = true) (ho : a.offset = 0x4 ∨ 0x14 < a.offset) :
    step s = .next { s with turns := ts } := by
  rw [step_hostWrite hl ht hw (by omega), State.hostWriteReg_ignored (by omega), ite_self]

/-- A reserved offset reads 0 (R38). -/
theorem State.hostRead_reserved {off : Nat} (h1 : 0x24 ≤ off) (h2 : off < 0x10000) :
    s.hostRead off = 0#32 := by
  simp only [State.hostRead, show off ≠ 0 by omega, show off ≠ 4 by omega, show off ≠ 8 by omega,
    show off ≠ 0xC by omega, show off ≠ 0x10 by omega, show off ≠ 0x14 by omega,
    show off ≠ 0x18 by omega, show off ≠ 0x1C by omega, show off ≠ 0x20 by omega,
    show ¬ 0x10000 ≤ off by omega, if_false]

end HostPort

/-- The ARG registers with `v` in ARG`k` (R21). -/
def Args.set (r : Args) (k : Nat) (v : Word) : Args :=
  ⟨if k = 0 then v else r.arg0, if k = 1 then v else r.arg1,
    if k = 2 then v else r.arg2, if k = 3 then v else r.arg3⟩

/-- A write to ARG`k`'s offset stores the word there (R21, R34). -/
theorem State.hostWriteReg_arg (s : State) {k : Nat} (hk : k < 4) (v : Word) :
    s.hostWriteReg (8 + 4 * k) v = { s with args := s.args.set k v } := by
  interval_cases k <;> rfl

/-- A read of ARG`k`'s offset after it was set returns the word (R21, R34). -/
theorem State.hostRead_arg (s : State) {k : Nat} (hk : k < 4) (v : Word) :
    State.hostRead { s with args := s.args.set k v } (8 + 4 * k) = v := by
  interval_cases k <;> rfl

end Sys2Proof.Machine

open Sys2Proof Sys2Proof.Machine

/-- Settles O36: the write is a step that stores, the read a step that returns what is stored. -/
theorem argRegistersStoreAndReadBack : Obligations.ArgRegistersStoreAndReadBack := by
  intro s k w r v d ts hl hr hk hw hrd ht
  have how : HostAccess.offset ⟨true, w, v⟩ = 8 + 4 * k := by simp only [HostAccess.offset]; omega
  have hor : HostAccess.offset ⟨false, r, d⟩ = 8 + 4 * k := by simp only [HostAccess.offset]; omega
  have h1 := step_hostWrite hl ht rfl (by rw [how]; omega)
  rw [if_pos hr, how, State.hostWriteReg_arg _ hk] at h1
  have h2 := step_hostRead (ts := ts) (a := ⟨false, r, d⟩)
    (s := { s with turns := .host ⟨false, r, d⟩ :: ts, args := s.args.set k v }) hl rfl rfl
  rw [runSteps_of_next h1, runSteps_one h2, hor]
  simp only [hr, if_true]
  rw [State.hostRead_arg { s with turns := .host ⟨false, r, d⟩ :: ts } hk]
  rfl

/-- Settles O37, by the value of a concatenation and the codes of the two encoded fields. -/
theorem statusFieldsStandInPlace : Obligations.StatusFieldsStandInPlace := by
  intro s
  rw [State.status_toNat]
  cases s.phase <;> cases s.lastErr <;> rfl

/-- Settles O39: a reserved offset is neither an ARG register's nor a register that reads. -/
theorem reservedOffsetsReadZeroAndIgnoreWrites : Obligations.ReservedOffsetsReadZeroAndIgnoreWrites := by
  intro s a ts hl h1 h2 ht
  have ho : 0x24 ≤ a.offset ∧ a.offset < 0x10000 := by simp only [HostAccess.offset]; omega
  cases hw : a.write with
  | true => exact step_ignoredWrite hl ht hw (by omega)
  | false =>
    rw [step_hostRead hl ht hw, State.hostRead_reserved ho.1 ho.2, ite_self]
    rfl

/-- Settles O40: none of these offsets is CMD's or an ARG register's. -/
theorem readOnlyOffsetsIgnoreWrites : Obligations.ReadOnlyOffsetsIgnoreWrites := by
  intro s addr v ts hl ha ht
  exact step_ignoredWrite hl ht rfl (by simp only [HostAccess.offset]; omega)

/-- Settles O42: a legal record's parameters fit their fields, and the registers ignore writes. -/
theorem configurationRegistersHoldTheParameters :
    Obligations.ConfigurationRegistersHoldTheParameters := by
  refine ⟨fun s hl => ?_, fun s hw hh hp hf => ?_⟩
  · obtain ⟨-, -, hw, -, hh, -, hpc, -, -, hfb, -⟩ := Params.legal_geometry hl
    have hph : s.params.height / s.params.pageCount ≤ 65535 := (Nat.div_le_self _ _).trans hh
    refine ⟨?_, ?_, ?_, hh, fun addr v ts h6 h8 ht => step_ignoredWrite hl ht rfl ?_⟩
    · show (geomWord s.params).toNat = _
      simp only [geomWord, toNat_append_eq, BitVec.toNat_ofNat]
      omega
    · show (pagingWord s.params).toNat = _
      simp only [pagingWord, Params.pageH, toNat_append_eq, BitVec.toNat_ofNat]
      omega
    · show (fbSizeWord s.params).toNat = _
      simp only [fbSizeWord, BitVec.toNat_ofNat]
      omega
    · simp only [HostAccess.offset]
      omega
  · refine ⟨?_, ?_, ?_⟩
    · show geomWord s.params = _
      simp [geomWord, hw, hh]
    · show pagingWord s.params = _
      simp [pagingWord, Params.pageH, hh, hp]
    · show fbSizeWord s.params = _
      simp [fbSizeWord, hf]

/-- Settles O58: the fields' reset values, and the busy turn's sample. -/
theorem statusAfterReset : Obligations.StatusAfterReset := by
  refine ⟨rfl, rfl, rfl, rfl, fun s level ts hl ht => ?_⟩
  have htn : s.turn = .busyIn level := by simp [State.turn, ht]
  rw [step_other hl (by simp [htn]) (by simp [htn]), htn]
  simp only [State.turnEffect, State.sampleBusy, State.popTurn, ht, List.tail_cons]
  cases level <;> cases s.params.busyActive <;> rfl

end

section
namespace Sys2Proof.Machine

/-! ## The wire command at the cursor -/

section WireAtCursor

variable {s : State} {pre ds post : List Action}

/-- A single-framed command and its data actions, read back at any of them (R101, R146, R209). -/
theorem State.wireEncoded_single {b : Byte} (ha : s.acts = pre ++ .cmd b :: (ds ++ post))
    (hd : ∀ a ∈ ds, a.isData = true) (hpost : ∀ a, post.head? = some a → a.isData = false)
    (hpre : pre.length ≤ s.pc) (hpc : s.pc ≤ pre.length + ds.length)
    (hf : ∀ a ∈ ds, (s.dataOf a).2 = (true, true))
    (hx : b = 0x24#8 ∨ ∀ a ∈ ds, a.isPix = false) :
    s.wireEncoded = some (.wire .single b (ds.map fun a => (s.dataOf a).1)) := by
  have hk : s.itemIndex = s.pc - pre.length :=
    State.itemIndex_eq ha rfl hd (by omega) (by omega)
  have hstart : s.pc - s.itemIndex = pre.length := by omega
  have hact : s.acts[pre.length]? = some (.cmd b) := by simpa using action_at_cursor ha 0 (Nat.zero_le _)
  have hfr : (ds.map fun a => (s.dataOf a).2).all (fun f => f.1 && f.2) = true := by
    simp only [List.all_map, List.all_eq_true, Function.comp]
    intro a h
    rw [hf a h]
    rfl
  have hpix : (b == 0x24#8 || ds.all fun a => !a.isPix) = true := by
    rcases hx with rfl | hx
    · rfl
    · simp only [Bool.or_eq_true, List.all_eq_true, Bool.not_eq_true']
      exact .inr hx
  simp only [State.wireEncoded, hstart, hact, dataActions_eq ha hd hpost, hfr, hpix, Bool.and_self, if_true]

/-- The framing of a burst (R146). -/
def BurstOf.frame : BurstOf → Frame
  | .lut => .lutBurst
  | .initEntry k => .initBurst k

/-- A burst and its data actions, read back at any of them (R101, R144). -/
theorem State.wireEncoded_burst {of : BurstOf} {b : Byte} {data : List Byte}
    (ha : s.acts = pre ++ burst of b data ++ post)
    (hpost : ∀ a, post.head? = some a → a.isData = false)
    (hpre : pre.length ≤ s.pc) (hpc : s.pc ≤ pre.length + data.length) :
    s.wireEncoded = some (.wire of.frame b data) := by
  have ha' : s.acts = pre ++ .burstCmd of b data.isEmpty :: (burstData data ++ post) := by
    rw [ha, burst, List.append_assoc, List.cons_append]
  have hlen := burstData_length data
  have hk : s.itemIndex = s.pc - pre.length :=
    State.itemIndex_eq ha' rfl (burstData_isData data) (by omega) (by omega)
  have hstart : s.pc - s.itemIndex = pre.length := by omega
  have hact : s.acts[pre.length]? = some (.burstCmd of b data.isEmpty) := by
    simpa using action_at_cursor ha' 0 (Nat.zero_le _)
  simp only [State.wireEncoded, hstart, hact, dataActions_eq ha' (burstData_isData data) hpost,
    burstData_bytes, burstData_framing, and_self, if_true]
  cases of <;> rfl

/-- The actions of an encoded wire command, read back at any of them (R101, R146). -/
theorem State.wireEncoded_wireActions {f : Frame} {code : Byte} {data : List Byte}
    (ha : s.acts = pre ++ wireActions f code data ++ post)
    (hpost : ∀ a, post.head? = some a → a.isData = false)
    (hpre : pre.length ≤ s.pc) (hpc : s.pc ≤ pre.length + data.length) :
    s.wireEncoded = some (.wire f code data) := by
  cases f with
  | single =>
    rw [State.wireEncoded_single (ds := data.map dataAct) (by simpa [wireActions] using ha)
      (List.forall_mem_map.2 fun _ _ => rfl) hpost hpre (by simpa using hpc)
      (List.forall_mem_map.2 fun _ _ => rfl) (.inr (List.forall_mem_map.2 fun _ _ => rfl))]
    simp [dataAct, State.dataOf, Function.comp_def]
  | lutBurst => exact State.wireEncoded_burst (of := .lut) ha hpost hpre hpc
  | initBurst k => exact State.wireEncoded_burst (of := .initEntry k) ha hpost hpre hpc

/-- A running wire command that decodes is what the sequencer's turn runs (R23, R101). -/
theorem step_of_wireEncoded (hl : s.params.legal = true) (hr : s.pins.rstN = true)
    (hb : s.seqBusy = true) (ht : s.turn = .sequencer) {e : Encoded} {i : Instr}
    (he : s.wireEncoded = some e) (hd : decode e = .ok i) : step s = exec i s.popTurn := by
  have hf : s.fetch = some i := by
    simp [State.fetch, ht, State.fetchWire, hb, hr, he, hd, Except.toOption]
  simp only [step, hl, if_true, hf]

end WireAtCursor

end Sys2Proof.Machine

open Sys2Proof Sys2Proof.Machine

/-- Settles O25: the actions around the cursor are read back as the wire command they stand for. -/
theorem stepRunsTheWireCommandAtTheCursor : Obligations.StepRunsTheWireCommandAtTheCursor := by
  intro s pre post hl hr hb hts hpost hpre
  have ht : s.turn = .sequencer := by
    rcases hts with h | h
    · simp [State.turn, h]
    · simp [State.turn, List.headD_eq_head?_getD, h]
  refine ⟨fun f code data i hd ha hpc => ?_, fun pix h1 hmax ha hpc => ?_⟩
  · exact step_of_wireEncoded hl hr hb ht (State.wireEncoded_wireActions ha hpost hpre hpc) hd
  · have he := State.wireEncoded_single (s := s) (b := 0x24#8)
      (ds := pix.map fun q => .pix q.1 q.2.1 q.2.2) (by simpa using ha)
      (List.forall_mem_map.2 fun _ _ => rfl) hpost hpre (by simpa using hpc)
      (List.forall_mem_map.2 fun _ _ => rfl) (.inl rfl)
    rw [List.map_map] at he
    have hlen : 1 ≤ (pix.map fun q => s.pixelByte q.1 q.2.1 q.2.2).length
        ∧ (pix.map fun q => s.pixelByte q.1 q.2.1 q.2.2).length ≤ maxPixels := by
      rw [List.length_map]
      exact ⟨h1, hmax⟩
    exact step_of_wireEncoded hl hr hb ht he (if_pos hlen)

end

section
namespace Sys2Proof.Machine

/-! ## What the sequencer never writes -/

/-- A state with what the sequencer's turn may write, other than PAGE_CURSOR, blanked out. What is left is
the host's side: the ARG registers, the operands it latched, ROTATION, CLIP, PARTIAL, LAST_ERR, the record, and
the other agents' levels and schedule. -/
def State.hostSide (s : State) : State :=
  { s.sansSending with
    acts := [], phase := .idle, seqBusy := false, pageReq := false, pdone := false
    dcnt := 0#32, rstOut := false, rstTrace := [], fb := [], delayOn := false, draw := 0
    pins := { s.pins with sReq := none } }

/-- States that agree but for the gate and the transport agree on the host's side. -/
theorem State.hostSide_of_sansSending {s t : State} (h : t.sansSending = s.sansSending) :
    t.hostSide = s.hostSide :=
  (congrArg State.hostSide h :)

/-- PAGE_CURSOR after an action: `SetCursor` alone writes it (R31, R206). -/
def Action.cursorAfter : Action → BitVec 8 → BitVec 8
  | .setCursor v, _ => v
  | _, cur => cur

/-- An action writes nothing on the host's side, and PAGE_CURSOR where it is a `SetCursor` (R23). -/
theorem State.actionStep_hostSide (s : State) (a : Action) :
    (s.actionStep a).hostSide = { s.hostSide with pageCursor := a.cursorAfter s.pageCursor } := by
  have hsend : ∀ (g : Bool) (it : BusItem), (s.send g it).hostSide = s.hostSide := fun g it =>
    State.hostSide_of_sansSending (s.send_sansSending g it)
  cases a with
  | cmd b => exact hsend _ _
  | burstCmd of b last => exact hsend _ _
  | dat b first last => exact hsend _ _
  | pix src r c =>
    rcases s.viaSource_cases (fun t => t.send false ⟨true, t.pixelByte src r c, true, true⟩) with
      ⟨-, h⟩ | ⟨b, -, -, h⟩ | ⟨b, -, -, h⟩ <;> rw [State.actionStep, h]
    · exact hsend _ _
    · exact (hsend _ _ :)
    · rfl
  | waitBusy => exact State.hostSide_of_sansSending (s.gate_sansSending fun _ => rfl)
  | delay n =>
    rw [State.actionStep]
    rcases s.delayStep_outcome n with ⟨c, h⟩ | ⟨c, h⟩ <;> rw [h] <;> rfl
  | awaitPage => rw [State.actionStep, State.awaitPageStep]; split <;> rfl
  | setPhase q => rfl
  | setCursor v => rfl
  | preclear => rfl
  | raisePageReq => rfl
  | setRst l => rfl
  | done => rfl

/-! ## How the sequencer moves the cursor -/

/-- ACTS stays, and pc stays or advances by one. -/
def HoldsOrAdvances (s t : State) : Prop := t.acts = s.acts ∧ (t.pc = s.pc ∨ t.pc = s.pc + 1)

/-- An emission holds or advances (R145). -/
theorem holdsOrAdvances_emit (s : State) (it : BusItem) : HoldsOrAdvances s (s.emit it) := by
  rcases s.emit_cases it with ⟨-, h⟩ | ⟨-, h⟩ <;> rw [h]
  · exact ⟨rfl, .inr rfl⟩
  · exact ⟨rfl, .inl rfl⟩

/-- So does the gate around a step that does (R141). -/
theorem holdsOrAdvances_gate (s : State) {k : State → State} (hk : ∀ u, HoldsOrAdvances u (k u)) :
    HoldsOrAdvances s (s.gate k) := by
  rcases s.gate_outcome k with ⟨n, h⟩ | ⟨n, h⟩ <;> rw [h]
  · exact hk { s with gateWait := false, pollTicks := n }
  · exact ⟨rfl, .inl rfl⟩

/-- So does the sending of an item (R142, R145). -/
theorem holdsOrAdvances_send (s : State) (g : Bool) (it : BusItem) : HoldsOrAdvances s (s.send g it) := by
  rcases s.send_cases g it with ⟨-, -, h⟩ | ⟨-, -, h⟩ | ⟨o, -, -, h⟩ | ⟨o, -, -, h⟩ <;> rw [h]
  · exact holdsOrAdvances_gate s fun u => holdsOrAdvances_emit u it
  · exact holdsOrAdvances_emit s it
  · exact ⟨rfl, .inr rfl⟩
  · exact ⟨rfl, .inl rfl⟩

/-- Every action but `Done` holds or advances (R23, R211). -/
theorem holdsOrAdvances_actionStep (s : State) {a : Action} (ha : a ≠ .done) :
    HoldsOrAdvances s (s.actionStep a) := by
  cases a with
  | cmd b => exact holdsOrAdvances_send s _ _
  | burstCmd of b last => exact holdsOrAdvances_send s _ _
  | dat b first last => exact holdsOrAdvances_send s _ _
  | pix src r c =>
    rcases s.viaSource_cases (fun t => t.send false ⟨true, t.pixelByte src r c, true, true⟩) with
      ⟨-, h⟩ | ⟨b, -, -, h⟩ | ⟨b, -, -, h⟩ <;> rw [State.actionStep, h]
    · exact holdsOrAdvances_send s _ _
    · exact holdsOrAdvances_send s _ _
    · exact ⟨rfl, .inl rfl⟩
  | waitBusy => exact holdsOrAdvances_gate s fun _ => ⟨rfl, .inr rfl⟩
  | delay n =>
    rcases s.delayStep_outcome n with ⟨c, h⟩ | ⟨c, h⟩ <;> rw [State.actionStep, h]
    · exact ⟨rfl, .inr rfl⟩
    · exact ⟨rfl, .inl rfl⟩
  | awaitPage =>
    rw [State.actionStep, State.awaitPageStep]
    split
    · exact ⟨rfl, .inr rfl⟩
    · exact ⟨rfl, .inl rfl⟩
  | setCursor v => exact ⟨rfl, .inr rfl⟩
  | setPhase q => exact ⟨rfl, .inr rfl⟩
  | preclear => exact ⟨rfl, .inr rfl⟩
  | raisePageReq => exact ⟨rfl, .inr rfl⟩
  | setRst l => exact ⟨rfl, .inr rfl⟩
  | done => exact absurd rfl ha

/-- The sequencer's turn runs the action at the cursor, or changes nothing (R23). -/
theorem State.sequencerStep_cases (s : State) :
    (s.seqBusy = true ∧ ∃ a, s.acts[s.pc]? = some a ∧ s.sequencerStep = s.actionStep a)
      ∨ s.sequencerStep = s := by
  unfold State.sequencerStep
  split
  · next hb =>
    split
    · next a ha => exact .inl ⟨(Bool.and_eq_true _ _ ▸ hb).1, a, ha, rfl⟩
    · exact .inr rfl
  · exact .inr rfl

/-! ## What the host's and the other turns can write -/

/-- The requests that start an operation or, for UPDATEWINDOW, may be dropped (R120, R163). -/
def StartsOperation (i : Instr) : Prop :=
  i ∈ [Instr.init, .update, .updatewindow, .drawpaged] ∨ ∃ p, i = .drawbitmap p ∨ i = .erase p

/-- What a request can do: be rejected, or be NOP; write the framebuffer and CLIP; write ROTATION; hand a
page over; start an operation where nothing runs; or be an UPDATEWINDOW that misses the panel (R92, R120). -/
inductive RequestEffect (s t : State) : Instr → Prop
  | answered (i : Instr) (c : ErrCode) : t = s.reject c → RequestEffect s t i
  | filled (m : Memory) : t = { s with lastErr := .accepted, fb := m } → RequestEffect s t .fill
  | pixel (m : Memory) (b : Bool) : t = { s with lastErr := .accepted, fb := m, clip := b } →
      RequestEffect s t .setpixel
  | rotated (r : BitVec 2) : t = { s with lastErr := .accepted, rotation := r } →
      RequestEffect s t .setrotation
  | handedOver : t = { s with lastErr := .accepted, pdone := true, pageReq := false } →
      RequestEffect s t .pagedone
  | started (i : Instr) (op : BitVec 4) (p : Bool) (m : LutMode) : s.seqBusy = false → StartsOperation i →
      t = State.startOperation { s with lastErr := .accepted } op p m → RequestEffect s t i
  | windowed (m : LutMode) : s.seqBusy = false →
      t = (State.startOperation { s with lastErr := .accepted } 6#4 false m).setClip false →
      RequestEffect s t .updatewindow
  | dropped : s.seqBusy = false →
      t = (State.latchOperands { s with lastErr := .accepted } 6#4 false).setClip true →
      RequestEffect s t .updatewindow

/-- An accepted request that starts an operation, or its rejection. -/
theorem requestEffect_start {s t : State} {i : Instr} (hi : StartsOperation i) {op : BitVec 4} {p : Bool}
    {m : LutMode} (h : (Host.Outcome.next (s.accept .idleOnly (fun u => u.startOperation op p m)) :
      Host.Outcome State Fault Refusal) = .next t) : RequestEffect s t i := by
  rcases accept_next h with ⟨c, -, ht⟩ | ⟨ha, ht⟩
  · exact .answered i c ht
  · exact .started i op p m (State.idle_of_accepted ha) hi ht

/-- Every request has one of these effects. -/
theorem exec_requestEffect {s t : State} {i : Instr} (hi : i.isRequest = true) (h : exec i s = .next t) :
    RequestEffect s t i := by
  cases i with
  | nop =>
    rcases accept_next h with ⟨c, -, ht⟩ | ⟨-, ht⟩
    · exact .answered _ c ht
    · exact .answered _ .accepted ht
  | init => exact requestEffect_start (.inl (by simp)) h
  | fill =>
    rcases accept_next h with ⟨c, -, ht⟩ | ⟨-, ht⟩
    · exact .answered _ c ht
    · exact .filled _ ht
  | setpixel =>
    rcases accept_next h with ⟨c, -, ht⟩ | ⟨-, ht⟩
    · exact .answered _ c ht
    · unfold State.setPixel at ht
      split at ht
      · exact .pixel _ false ht
      · exact .pixel s.fb true ht
  | update => exact requestEffect_start (.inl (by simp)) h
  | drawbitmap p => exact requestEffect_start (.inr ⟨p, .inl rfl⟩) h
  | updatewindow =>
    rcases accept_next h with ⟨c, -, ht⟩ | ⟨ha, ht⟩
    · exact .answered _ c ht
    · split at ht
      · exact .dropped (State.idle_of_accepted ha) ht
      · exact .windowed _ (State.idle_of_accepted ha) ht
  | drawpaged => exact requestEffect_start (.inl (by simp)) h
  | erase p => exact requestEffect_start (.inr ⟨p, .inr rfl⟩) h
  | setrotation =>
    rcases accept_next h with ⟨c, -, ht⟩ | ⟨-, ht⟩
    · exact .answered _ c ht
    · exact .rotated _ ht
  | pagedone =>
    rcases accept_next h with ⟨c, -, ht⟩ | ⟨-, ht⟩
    · exact .answered _ c ht
    · exact .handedOver ht
  | _ => simp [Instr.isRequest] at hi

/-- A host write beyond CMD can write the ARG registers only (R21). -/
theorem State.hostWriteReg_outcome (s : State) (off : Nat) (v : Word) :
    ∃ r, s.hostWriteReg off v = { s with args := r } := by
  unfold State.hostWriteReg
  split_ifs
  · exact ⟨_, rfl⟩
  · exact ⟨_, rfl⟩
  · exact ⟨_, rfl⟩
  · exact ⟨_, rfl⟩
  · exact ⟨s.args, rfl⟩

/-- What a host access that is no request can do: write LAST_ERR and the read data, or an ARG register
by a write to its offset (R21, R34, R261). -/
theorem State.hostAccess_outcome (s : State) (a : HostAccess) :
    (∃ e p, s.hostAccess a = { s with lastErr := e, pins := p })
      ∨ (a.write = true ∧ 8 ≤ a.offset ∧ a.offset ≤ 0x14 ∧
          ∃ r, s.hostAccess a = { s with args := r }) := by
  unfold State.hostAccess
  split
  · next hw =>
    split_ifs with hr ho
    · exact .inl ⟨.illegal, s.pins, rfl⟩
    · by_cases hoff : a.offset < 8 ∨ 0x14 < a.offset
      · exact .inl ⟨s.lastErr, s.pins, State.hostWriteReg_ignored hoff _⟩
      · exact .inr ⟨hw, by omega, by omega, s.hostWriteReg_outcome _ _⟩
    · exact .inl ⟨s.lastErr, s.pins, rfl⟩
  · exact .inl ⟨s.lastErr, _, rfl⟩

/-- The other agents' turns, but for the assertion of `rst_n`, write their levels, the busy sample, SRC and
the tick counts only (R9). -/
theorem State.turnEffect_outcome (s : State) {tn : Turn} (hh : ∀ a, tn ≠ .host a) (hs : tn ≠ .sequencer)
    (hr : tn ≠ .rstN false) :
    ∃ b p m o n d, s.turnEffect tn
      = { s with busyS := b, pins := p, src := m, srcOld := o, pollTicks := n, dcnt := d } := by
  cases tn with
  | host a => exact absurd rfl (hh a)
  | sequencer => exact absurd rfl hs
  | busyIn level => exact ⟨_, s.pins, s.src, s.srcOld, s.pollTicks, s.dcnt, rfl⟩
  | txReady level => exact ⟨s.busyS, _, s.src, s.srcOld, s.pollTicks, s.dcnt, rfl⟩
  | sAck level => exact ⟨s.busyS, _, s.src, s.srcOld, s.pollTicks, s.dcnt, rfl⟩
  | srcWrite a v => exact ⟨s.busyS, s.pins, _, _, s.pollTicks, s.dcnt, rfl⟩
  | tick => exact ⟨s.busyS, s.pins, s.src, s.srcOld, _, _, rfl⟩
  | rstN level =>
    cases level with
    | true => exact ⟨s.busyS, _, s.src, s.srcOld, s.pollTicks, s.dcnt, rfl⟩
    | false => exact absurd rfl hr

end Sys2Proof.Machine

open Sys2Proof Sys2Proof.Machine

/-- Settles O33, by what each kind of turn can write. -/
theorem registersHaveTheirWriters : Obligations.RegistersHaveTheirWriters := by
  intro s t hs hrst
  obtain ⟨-, ⟨a, i, -, -, hf, hi, -, -, he⟩ | ⟨a, ha, -, rfl⟩ | ⟨hq, rfl⟩ | ⟨hh, hq, rfl⟩⟩ := step_cases hs
  · rw [hf]
    cases exec_requestEffect hi he with
    | answered _ c h => simp [h]
    | filled m h => simp [h]
    | pixel m b h => simp [h]
    | rotated r h => simp [h]
    | handedOver h => simp [h]
    | started _ op p m _ hst h => simpa [h, StartsOperation] using fun _ => hst
    | windowed m _ h => simp [h]
    | dropped _ h => simp [h]
  · rcases s.popTurn.hostAccess_outcome a with ⟨e, p, h⟩ | ⟨hw, h1, h2, r, h⟩ <;> rw [h]
    · simp
    · simpa using fun _ => ⟨a, ha, hw, h1, h2⟩
  · rcases s.popTurn.sequencerStep_cases with ⟨-, a, ha, h⟩ | h <;> rw [h]
    · have hside := s.popTurn.actionStep_hostSide a
      have hcur : (s.popTurn.actionStep a).pageCursor = a.cursorAfter s.pageCursor :=
        (congrArg State.pageCursor hside :)
      refine ⟨fun hn => absurd (congrArg State.rotation hside :) hn, fun hn => ⟨hq, ?_⟩,
        fun hn => absurd (congrArg State.clip hside :) hn,
        fun hn => absurd (congrArg State.latched hside :) hn,
        fun hn => absurd (congrArg State.args hside :) hn, (congrArg State.params hside :)⟩
      cases a with
      | setCursor v => exact ⟨v, ha⟩
      | _ => exact absurd hcur hn
    · simp
  · obtain ⟨b, p, m, o, n, d, h⟩ := s.popTurn.turnEffect_outcome hh hq hrst
    rw [h]
    simp

/-- Settles O35, by the kinds of turn: only the sequencer's moves a running cursor, only a request starts one. -/
theorem theCursorNeverSkips : Obligations.TheCursorNeverSkips := by
  intro s t hrst hs
  obtain ⟨-, ⟨a, i, ha, hp, -, hi, -, ho, he⟩ | ⟨a, ha, -, rfl⟩ | ⟨hq, rfl⟩ | ⟨hh, hq, rfl⟩⟩ := step_cases hs
  · have hw : a.write = true := by
      by_contra hr
      simp [State.presented_of_read (by simpa using hr)] at hp
    have hturn : s.turn ≠ .sequencer := by simp [ha]
    cases exec_requestEffect hi he with
    | answered _ c h => simp [h, hturn]
    | filled m h => simp [h, hturn]
    | pixel m b h => simp [h, hturn]
    | rotated r h => simp [h, hturn]
    | handedOver h => simp [h, hturn]
    | started _ op p m hb _ h =>
      have hb : s.seqBusy = false := hb
      simp [h, hb, ha, hw, ho]
    | windowed m hb h =>
      have hb : s.seqBusy = false := hb
      simp [h, hb, ha, hw, ho]
    | dropped hb h =>
      have hb : s.seqBusy = false := hb
      simp [h, hb]
  · have hturn : s.turn ≠ .sequencer := by simp [ha]
    rcases s.popTurn.hostAccess_outcome a with ⟨e, p, h⟩ | ⟨-, -, -, r, h⟩ <;> rw [h] <;> simp [hturn]
  · rcases s.popTurn.sequencerStep_cases with ⟨hb, a, hact, h⟩ | h <;> rw [h]
    · have hb : s.seqBusy = true := hb
      by_cases had : a = .done
      · subst had
        exact ⟨fun _ _ => .inr ⟨hact, rfl, rfl, rfl⟩, fun _ hn => absurd hq hn, by simp [hb]⟩
      · exact ⟨fun _ _ => .inl (holdsOrAdvances_actionStep _ had), fun _ hn => absurd hq hn, by simp [hb]⟩
    · simp
  · obtain ⟨b, p, m, o, n, d, h⟩ := s.popTurn.turnEffect_outcome hh hq hrst
    rw [h]
    simp [hq]

end

section
namespace Sys2Proof.Machine

/-! ## A sequence that nothing holds up -/

/-- An operation runs with every agent cooperating, nothing on offer and no SRC byte raced (R290). -/
structure Unhindered (s : State) : Prop where
  cooperative : Cooperative s
  seqBusy : s.seqBusy = true
  txq : s.txq = none
  gateWait : s.gateWait = false
  srcOld : s.srcOld = []

/-- What an unhindered step past an item, a closing wait or a phase change makes of the state. -/
def State.passed (s : State) (a : Action) (ph : Phase) (rq : Option Word) : State :=
  { s with
    pc := s.pc + 1, phase := ph, trace := s.trace ++ (s.itemOf a).toList
    pins := { s.pins with sReq := rq } }

/-- It leaves the bytes that items are formed from. -/
theorem State.itemOf_passed (s : State) (a : Action) (ph : Phase) (rq : Option Word) :
    (s.passed a ph rq).itemOf = s.itemOf := by
  funext b
  cases b <;> rfl

section Unhindered

variable {s : State} {a : Action}

/-- It leaves the operation unhindered. -/
theorem Unhindered.passed (h : Unhindered s) (a : Action) (ph : Phase) (rq : Option Word) :
    Unhindered (s.passed a ph rq) :=
  ⟨⟨h.cooperative.legal, h.cooperative.rstN, h.cooperative.txReady, h.cooperative.sAck,
    h.cooperative.busyS, h.cooperative.turns⟩, h.seqBusy, h.txq, h.gateWait, h.srcOld⟩

/-- With nothing scheduled a step is the action at the cursor (R9, R23). -/
theorem Unhindered.step_eq (h : Unhindered s) (ha : s.acts[s.pc]? = some a) :
    step s = .next (s.actionStep a) := by
  have hpop : s.popTurn = s := by
    rw [State.popTurn, h.cooperative.turns, List.tail_nil, ← h.cooperative.turns]
  rw [step_sequencer h.cooperative.legal (by simp [State.turn, h.cooperative.turns]), hpop]
  simp [State.sequencerStep, h.seqBusy, h.cooperative.rstN, ha]

/-- An item goes straight to the trace (R142, R145). -/
theorem Unhindered.send_eq (h : Unhindered s) (gated : Bool) (it : BusItem) :
    s.send gated it = { s with pc := s.pc + 1, trace := s.trace ++ [it] } := by
  rw [State.send_open h.txq h.cooperative.txReady gated (fun _ => ⟨h.gateWait, h.cooperative.busyS⟩),
    State.consume, ← h.txq]
  rfl

/-- A SRC byte that nothing has overwritten is not raced (R80). -/
theorem Unhindered.srcRaced_eq (h : Unhindered s) (b : Word) : s.srcRaced b = false := by
  simp [State.srcRaced, State.srcEarlier, h.srcOld]

/-- A `Pix` is formed and goes straight to the trace, its SRC byte acknowledged at once (R196, R65). -/
theorem Unhindered.pix_eq (h : Unhindered s) (src : Source) (r c : Nat) :
    ∃ rq, s.actionStep (.pix src r c) = s.passed (.pix src r c) s.phase rq := by
  rcases s.viaSource_cases (fun t => t.send false ⟨true, t.pixelByte src r c, true, true⟩) with
    ⟨-, hv⟩ | ⟨b, -, -, hv⟩ | ⟨b, -, hack, -⟩
  · exact ⟨s.pins.sReq, by rw [State.actionStep, hv, h.send_eq]; rfl⟩
  · exact ⟨none, by rw [State.actionStep, hv, h.send_eq, h.srcRaced_eq]; rfl⟩
  · simp [h.cooperative.sAck] at hack

/-- An item, a closing wait or a phase change takes one step (R23, R148, R191). -/
theorem Unhindered.actionStep_eq (h : Unhindered s)
    (ha : a.emits = true ∨ a = .waitBusy ∨ ∃ p, a = .setPhase p) :
    ∃ ph rq, s.actionStep a = s.passed a ph rq := by
  rcases ha with he | rfl | ⟨p, rfl⟩
  · refine ⟨s.phase, ?_⟩
    cases a with
    | cmd b => exact ⟨s.pins.sReq, h.send_eq _ _⟩
    | burstCmd of b last => exact ⟨s.pins.sReq, h.send_eq _ _⟩
    | dat b first last => exact ⟨s.pins.sReq, h.send_eq _ _⟩
    | pix src r c => exact h.pix_eq src r c
    | _ => simp [Action.emits] at he
  · refine ⟨s.phase, s.pins.sReq, ?_⟩
    simp [State.actionStep, State.gate, h.gateWait, h.cooperative.busyS, State.passed, State.itemOf,
      State.advance]
  · refine ⟨p, s.pins.sReq, ?_⟩
    simp [State.actionStep, State.passed, State.itemOf, State.advance]

/-- The whole run of such actions up to `Done`: their items are sent, and the operation is finished with
nothing else written but the source request (R74, R201). -/
theorem Unhindered.run (h : Unhindered s) (as : List Action) (hs : s.acts.drop s.pc = as ++ [.done])
    (has : ∀ a ∈ as, a.emits = true ∨ a = .waitBusy ∨ ∃ p, a = .setPhase p) :
    ∃ rq, runSteps (as.length + 1) s = .next { s.finish with
      trace := s.trace ++ as.filterMap s.itemOf, pins := { s.pins with sReq := rq } } := by
  induction as generalizing s with
  | nil =>
    have ha : s.acts[s.pc]? = some .done := by simpa using congrArg List.head? hs
    refine ⟨s.pins.sReq, ?_⟩
    rw [List.length_nil, Nat.zero_add, runSteps_one (h.step_eq ha), List.filterMap_nil, List.append_nil]
    rfl
  | cons a as ih =>
    have ha : s.acts[s.pc]? = some a := by simpa using congrArg List.head? hs
    obtain ⟨ph, rq, hstep⟩ := h.actionStep_eq (has a List.mem_cons_self)
    have hdrop : s.acts.drop (s.pc + 1) = as ++ [.done] := by
      simpa using congrArg List.tail hs
    obtain ⟨rq', hrun⟩ :=
      ih (h.passed a ph rq) hdrop fun b hb => has b (List.mem_cons_of_mem a hb)
    refine ⟨rq', ?_⟩
    have htrace : s.trace ++ (a :: as).filterMap s.itemOf
        = (s.passed a ph rq).trace ++ as.filterMap (s.passed a ph rq).itemOf := by
      rw [State.itemOf_passed]
      cases hi : s.itemOf a <;> simp [State.passed, hi]
    rw [List.length_cons, runSteps_of_next ((h.step_eq ha).trans (congrArg _ hstep)), hrun, htrace]
    rfl

end Unhindered

end Sys2Proof.Machine

open Sys2Proof Sys2Proof.Machine

/-- Settles O59, by the run of the sequence action by action. -/
theorem aSequenceSendsExactlyItsItems : Obligations.ASequenceSendsExactlyItsItems := by
  intro s as hc hb hq hg ho hs has
  obtain ⟨rq, hrun⟩ := Unhindered.run ⟨hc, hb, hq, hg, ho⟩ as hs has
  exact ⟨_, hrun, rfl, rfl, rfl, rfl, rfl, rfl, rfl, rfl, rfl, rfl, rfl, rfl⟩

end

section
namespace Sys2Proof.Machine

/-! ## The framebuffer's writers -/

/-- No action but `Preclear` writes the framebuffer (R61). -/
theorem State.actionStep_fb (s : State) {a : Action} (ha : a ≠ .preclear) : (s.actionStep a).fb = s.fb := by
  have hsend : ∀ (g : Bool) (it : BusItem), (s.send g it).fb = s.fb := fun g it =>
    (congrArg State.fb (s.send_sansSending g it) :)
  cases a with
  | cmd b => exact hsend _ _
  | burstCmd of b last => exact hsend _ _
  | dat b first last => exact hsend _ _
  | pix src r c =>
    rcases s.viaSource_cases (fun t => t.send false ⟨true, t.pixelByte src r c, true, true⟩) with
      ⟨-, h⟩ | ⟨b, -, -, h⟩ | ⟨b, -, -, h⟩ <;> rw [State.actionStep, h]
    · exact hsend _ _
    · exact hsend _ _
  | waitBusy => exact (congrArg State.fb (s.gate_sansSending (k := State.advance) fun _ => rfl) :)
  | delay n =>
    rcases s.delayStep_outcome n with ⟨c, h⟩ | ⟨c, h⟩ <;> simp [State.actionStep, h]
  | awaitPage => rw [State.actionStep, State.awaitPageStep]; split <;> rfl
  | setPhase q => rfl
  | setCursor v => rfl
  | preclear => exact absurd rfl ha
  | raisePageReq => rfl
  | setRst l => rfl
  | done => rfl

/-- Among the requests, FILL and SETPIXEL alone write the framebuffer (R61). -/
theorem RequestEffect.fb_eq {s t : State} {i : Instr} (h : RequestEffect s t i) (hf : i ≠ .fill)
    (hp : i ≠ .setpixel) : t.fb = s.fb := by
  cases h with
  | filled m h => exact absurd rfl hf
  | pixel m b h => exact absurd rfl hp
  | answered i c h => rw [h]; rfl
  | rotated r h => rw [h]
  | handedOver h => rw [h]
  | started i op p m hb hi h => rw [h]; rfl
  | windowed m hb h => rw [h]; rfl
  | dropped hb h => rw [h]; rfl

/-- A host access that is no request leaves the framebuffer alone (R67). -/
theorem State.hostAccess_fb (s : State) (a : HostAccess) : (s.hostAccess a).fb = s.fb := by
  rcases s.hostAccess_outcome a with ⟨e, p, h⟩ | ⟨-, -, -, r, h⟩ <;> rw [h]

/-- A turn that is neither the host's nor the sequencer's leaves the framebuffer alone, the block reset
included (R61, R280). -/
theorem State.turnEffect_fb (s : State) {tn : Turn} (hh : ∀ a, tn ≠ .host a) (hs : tn ≠ .sequencer) :
    (s.turnEffect tn).fb = s.fb := by
  by_cases hr : tn = .rstN false
  · rw [hr]; rfl
  · obtain ⟨b, p, m, o, n, d, h⟩ := s.turnEffect_outcome hh hs hr
    rw [h]

/-! ## The aperture's bits -/

/-- An aperture byte by its bits: the framebuffer's below FB_BYTES, zeros beyond (R67). -/
theorem State.apertureByte_getLsbD (s : State) (i b : Nat) :
    (s.apertureByte i).getLsbD b = if i < s.params.fbBytes then (s.fbByte i).getLsbD b else false := by
  unfold State.apertureByte
  split
  · rfl
  · exact BitVec.getLsbD_zero

/-- Byte `k` of an aperture word is aperture byte `i + k` (R67, R69). -/
theorem State.apertureWord_getLsbD (s : State) (i : Nat) {k b : Nat} (hk : k < 4) (hb : b < 8) :
    (s.apertureWord i).getLsbD (8 * k + b) = (s.apertureByte (i + k)).getLsbD b := by
  simp only [State.apertureWord, BitVec.getLsbD_append]
  interval_cases k
  · rw [if_pos (by omega)]; simp
  · rw [if_neg (by omega), if_pos (by omega)]; simp
  · rw [if_neg (by omega), if_neg (by omega), if_pos (by omega)]; congr 1; omega
  · rw [if_neg (by omega), if_neg (by omega), if_neg (by omega)]; congr 1; omega

/-- A read from 0x10000 on is the aperture word there (R67). -/
theorem State.hostRead_aperture (s : State) (i : Nat) : s.hostRead (0x10000 + i) = s.apertureWord i := by
  simp only [State.hostRead, show 0x10000 + i ≠ 0 by omega, show 0x10000 + i ≠ 4 by omega,
    show 0x10000 + i ≠ 8 by omega, show 0x10000 + i ≠ 0xC by omega, show 0x10000 + i ≠ 0x10 by omega,
    show 0x10000 + i ≠ 0x14 by omega, show 0x10000 + i ≠ 0x18 by omega, show 0x10000 + i ≠ 0x1C by omega,
    show 0x10000 + i ≠ 0x20 by omega, show 0x10000 ≤ 0x10000 + i by omega, if_false, if_true,
    Nat.add_sub_cancel_left]

/-! ## The host's source memory -/

/-- A source byte reads as its present value or as one it held earlier (R80, U4). -/
theorem State.srcByte_admitted (s : State) (a : Word) :
    s.srcByte a = s.srcNow a ∨ s.srcByte a ∈ s.srcEarlier a := by
  unfold State.srcByte
  cases h : (s.srcEarlier a)[Config.raceChoice s.draw % ((s.srcEarlier a).length + 1)]? with
  | none => exact .inl rfl
  | some v => exact .inr (List.mem_of_getElem? h)

/-- A source byte that nothing changed reads as its present value (R80). -/
theorem State.srcByte_of_not_raced {s : State} {a : Word} (h : s.srcRaced a = false) :
    s.srcByte a = s.srcNow a := by
  have he : s.srcEarlier a = [] := by simpa [State.srcRaced] using h
  simp [State.srcByte, he]

/-- A host write is the byte's present value, and leaves other addresses alone (R65). -/
theorem State.srcNow_writeSrc (s : State) (a b : Word) (v : Byte) :
    (s.writeSrc a v).srcNow b = if b = a then v else s.srcNow b := by
  simp only [State.srcNow, State.writeSrc_src, State.writeSrc_powerUp, Memory.lookup_write, BitVec.toNat_inj]
  split <;> rfl

/-- While a DRAWBITMAP runs, the value a host write replaces stays one of the byte's (R80). -/
theorem State.srcEarlier_writeSrc {s : State} (hb : s.seqBusy = true) (ho : s.latched.lOp = 5#4)
    (a b : Word) (v : Byte) :
    (s.writeSrc a v).srcEarlier b = if b = a then s.srcNow a :: s.srcEarlier a else s.srcEarlier b := by
  have hold : (s.writeSrc a v).srcOld = (a.toNat, s.srcNow a) :: s.srcOld := by simp [hb, ho]
  rw [State.srcEarlier, hold]
  by_cases h : b = a
  · simp [h, State.srcEarlier]
  · have hn : a.toNat ≠ b.toNat := fun he => h (BitVec.eq_of_toNat_eq he.symm)
    simp [h, hn, State.srcEarlier]

/-- The step of a host's SRC write (R9, R80). -/
theorem step_srcWrite {s : State} {a : Word} {v : Byte} {ts : List Turn} (hl : s.params.legal = true)
    (ht : s.turns = .srcWrite a v :: ts) :
    step s = .next (({ s with turns := ts } : State).writeSrc a v) := by
  have htn : s.turn = .srcWrite a v := by simp [State.turn, ht]
  rw [step_other hl (by simp [htn]) (by simp [htn]), htn, State.popTurn, ht, List.tail_cons]
  rfl

end Sys2Proof.Machine

open Sys2Proof Sys2Proof.Machine

/-- Settles O32, by what each kind of turn leaves of the framebuffer. -/
theorem framebufferHasThreeWriters : Obligations.FramebufferHasThreeWriters := by
  intro s t hs hfb
  obtain ⟨-, ⟨a, i, -, -, hf, hi, -, -, he⟩ | ⟨a, -, -, rfl⟩ | ⟨hq, rfl⟩ | ⟨hh, hq, rfl⟩⟩ := step_cases hs
  · rw [hf]
    by_cases hfill : i = .fill
    · exact .inl (congrArg some hfill)
    by_cases hpix : i = .setpixel
    · exact .inr (.inl (congrArg some hpix))
    exact absurd ((exec_requestEffect hi he).fb_eq hfill hpix) hfb
  · exact absurd (s.popTurn.hostAccess_fb a) hfb
  · rcases s.popTurn.sequencerStep_cases with ⟨hb, a, ha, h⟩ | h <;> rw [h] at hfb
    · by_cases hp : a = .preclear
      · exact .inr (.inr ⟨hq, hb, hp ▸ ha⟩)
      · exact absurd (s.popTurn.actionStep_fb hp) hfb
    · exact absurd rfl hfb
  · exact absurd (s.popTurn.turnEffect_fb hh hq) hfb

/-- Settles O41: the offset is the aperture's, whose word is read bit by bit and whose writes are ignored. -/
theorem apertureReadsFramebufferBytes : Obligations.ApertureReadsFramebufferBytes := by
  intro s j write v ts hj hl hr ht
  have ho : HostAccess.offset ⟨write, BitVec.ofNat 17 (0x10000 + 4 * j), v⟩ = 0x10000 + 4 * j := by
    simp only [HostAccess.offset, BitVec.toNat_ofNat]; omega
  refine ⟨fun hw => step_ignoredWrite hl ht hw (by omega), fun hw => ⟨s.apertureWord (4 * j), ?_, ?_⟩⟩
  · rw [step_hostRead hl ht hw, if_pos hr, ho, State.hostRead_aperture]
  · intro k hk i hi
    rw [State.apertureWord_getLsbD s _ hk hi, State.apertureByte_getLsbD]

/-- Settles O53, by what a read of SRC may give and what a write of SRC leaves. -/
theorem sourceBytesAreAdmittedValues : Obligations.SourceBytesAreAdmittedValues := by
  intro s a b v
  refine ⟨s.srcByte_admitted a, State.srcByte_of_not_raced, s.srcNow_writeSrc a b v,
    fun hb ho => State.srcEarlier_writeSrc hb ho a b v, fun ts hl ht => ?_⟩
  have hstep := step_srcWrite hl ht
  refine ⟨hstep, hstep.trans ?_⟩
  simp only [State.writeSrc, Bool.and_eq_true, beq_iff_eq]
  rfl

/-- Settles O38: the register map by the aligned word, and the aperture from 0x10000 on. -/
theorem readsHaveNoSideEffect : Obligations.ReadsHaveNoSideEffect := by
  intro s addr d ts hl ht w j
  refine ⟨_, step_hostRead hl ht rfl, fun hr => by simp [hr], fun hr => ?_⟩
  rw [if_pos hr]
  show s.hostRead (w * 4) = _
  by_cases hw : w < 0x4000
  · simp only [State.hostRead, hw, show w * 4 = 0 ↔ w = 0 by omega, show w * 4 = 4 ↔ w = 1 by omega,
      show w * 4 = 8 ↔ w = 2 by omega, show w * 4 = 0xC ↔ w = 3 by omega, show w * 4 = 0x10 ↔ w = 4 by omega,
      show w * 4 = 0x14 ↔ w = 5 by omega, show w * 4 = 0x18 ↔ w = 6 by omega,
      show w * 4 = 0x1C ↔ w = 7 by omega, show w * 4 = 0x20 ↔ w = 8 by omega,
      show ¬ 0x10000 ≤ w * 4 by omega, if_true, if_false]
  · rw [show w * 4 = 0x10000 + j by omega, State.hostRead_aperture]
    simp only [show w ≠ 0 by omega, show w ≠ 1 by omega, show w ≠ 2 by omega, show w ≠ 3 by omega,
      show w ≠ 4 by omega, show w ≠ 5 by omega, show w ≠ 6 by omega, show w ≠ 7 by omega,
      show w ≠ 8 by omega, hw, if_false]
    rfl

end

section
/-! PROOFS. The encoding of both layers: the decoder and the encoder agree, and which CMD words are ILLEGAL
(30_encoding.md). -/

namespace Sys2Proof.Machine

/-! ## The fields of a CMD word (R91) -/

theorem cmdOp_toNat (v : Word) : (cmdOp v).toNat = v.toNat % 16 := by
  simp [cmdOp, BitVec.extractLsb'_toNat]

theorem cmdRsv0_toNat (v : Word) : (cmdRsv0 v).toNat = v.toNat / 16 % 16 := by
  simp [cmdRsv0, BitVec.extractLsb'_toNat, Nat.shiftRight_eq_div_pow]

theorem cmdRsv1_toNat (v : Word) : (cmdRsv1 v).toNat = v.toNat / 512 := by
  simp only [cmdRsv1, BitVec.extractLsb'_toNat, Nat.shiftRight_eq_div_pow]
  omega

theorem cmdP_toNat (v : Word) : (cmdP v).toNat = v.toNat / 256 % 2 := by
  rw [cmdP, BitVec.getLsbD, Nat.toNat_testBit]

theorem cmdWordOf_toNat (op : BitVec 4) (p : Bool) :
    (cmdWordOf op p).toNat = op.toNat + 256 * p.toNat := by
  simp only [cmdWordOf, toNat_append_eq, BitVec.toNat_ofNat, BitVec.toNat_ofBool]
  omega

/-- A word with its reserved fields zero is made of its opcode and its P bit. -/
theorem cmdWordOf_fields {v : Word} (h0 : cmdRsv0 v = 0#4) (h1 : cmdRsv1 v = 0#23) :
    cmdWordOf (cmdOp v) (cmdP v) = v := by
  apply BitVec.eq_of_toNat_eq
  have h0 := congrArg BitVec.toNat h0
  have h1 := congrArg BitVec.toNat h1
  rw [cmdRsv0_toNat, BitVec.toNat_ofNat] at h0
  rw [cmdRsv1_toNat, BitVec.toNat_ofNat] at h1
  rw [cmdWordOf_toNat, cmdOp_toNat, cmdP_toNat]
  omega

/-! ## The decoder of CMD words (R92, R93) -/

/-- What an opcode and a P bit select has these two as its encoding. -/
theorem requestOf_ok {op : BitVec 4} {p : Bool} {i : Instr} (h : requestOf op p = .ok i) :
    i.wellFormed = true ∧ encode i = .cmdWord (cmdWordOf op p) := by
  have hall : ∀ (op : BitVec 4) (p : Bool), (requestOf op p).toOption.all
      (fun i => decide (i.wellFormed = true ∧ encode i = .cmdWord (cmdWordOf op p))) = true := by decide
  have hi := hall op p
  rw [h] at hi
  exact of_decide_eq_true hi

/-- An opcode and a P bit select nothing where the opcode is reserved or does not define P (R93). -/
theorem requestOf_toOption_eq_none_iff : ∀ (op : BitVec 4) (p : Bool),
    (requestOf op p).toOption = none
      ↔ 0xB ≤ op.toNat ∨ (p.toNat = 1 ∧ op.toNat ≠ 0x5 ∧ op.toNat ≠ 0x8) := by decide

/-- The conditions of R93 on a CMD word. -/
def IllegalWord (v : Word) : Prop :=
  0xB ≤ v.toNat % 16 ∨ v.toNat / 16 % 16 ≠ 0 ∨ v.toNat / 512 ≠ 0
    ∨ (v.toNat / 256 % 2 = 1 ∧ v.toNat % 16 ≠ 0x5 ∧ v.toNat % 16 ≠ 0x8)

/-- A CMD word decodes to no request exactly under the conditions of R93. -/
theorem decode_cmdWord_toOption_eq_none_iff (v : Word) :
    (decode (.cmdWord v)).toOption = none ↔ IllegalWord v := by
  have h0 : cmdRsv0 v = 0#4 ↔ v.toNat / 16 % 16 = 0 := by
    rw [← cmdRsv0_toNat, BitVec.toNat_eq]; rfl
  have h1 : cmdRsv1 v = 0#23 ↔ v.toNat / 512 = 0 := by
    rw [← cmdRsv1_toNat, BitVec.toNat_eq]; rfl
  simp only [decode, decodeCmd, IllegalWord]
  split
  · next h =>
    rw [requestOf_toOption_eq_none_iff, cmdOp_toNat, cmdP_toNat]
    simp [h0.1 h.1, h1.1 h.2]
  · next h =>
    rw [h0, h1] at h
    simp only [Except.toOption, true_iff]
    omega

/-- A decoder answers no instruction exactly where its answer is an error. -/
theorem forall_ne_ok_iff {ε α : Type} (x : Except ε α) : (∀ a, x ≠ .ok a) ↔ x.toOption = none := by
  cases x <;> simp [Except.toOption]

/-- A step on a host write of an ILLEGAL word to CMD is its rejection (R93, R261, R265). -/
theorem step_illegalWord {s : State} {a : HostAccess} {ts : List Turn} (hl : s.params.legal = true)
    (hr : s.pins.rstN = true) (hw : a.write = true) (ho : a.offset = 0) (hv : IllegalWord a.wdata)
    (ht : s.turns = .host a :: ts) : step s = .next { s with turns := ts, lastErr := .illegal } := by
  have hp : s.presented a = none := by
    simp [State.presented, (decode_cmdWord_toOption_eq_none_iff a.wdata).2 hv]
  rw [step_hostAccess hl ht hp]
  simp [State.hostAccess, hw, hr, ho, State.reject]

/-! ## The decoder of wire commands (R100, R144) -/

/-- What a single-framed command decodes to has it as its encoding, with the data bytes R100 asks for. -/
theorem decodeSingle_ok {code : Byte} {data : List Byte} {i : Instr} (h : decodeSingle code data = .ok i) :
    i.wellFormed = true ∧ encode i = .wire .single code data := by
  unfold decodeSingle at h
  split_ifs at h with h44 h45 h4E h4F h24 hlen h22 h20 hFF
  · split at h <;> cases h; exact ⟨rfl, h44 ▸ rfl⟩
  · split at h <;> cases h; exact ⟨rfl, h45 ▸ rfl⟩
  · split at h <;> cases h; exact ⟨rfl, h4E ▸ rfl⟩
  · split at h <;> cases h; exact ⟨rfl, h4F ▸ rfl⟩
  · cases h; exact ⟨by simpa [Instr.wellFormed] using hlen, h24 ▸ rfl⟩
  · split at h <;> cases h; exact ⟨rfl, h22 ▸ rfl⟩
  · split at h <;> cases h; exact ⟨rfl, h20 ▸ rfl⟩
  · split at h <;> cases h; exact ⟨rfl, hFF ▸ rfl⟩

/-- So has what a burst decodes to, the LUT's or an INIT ROM entry's. -/
theorem decodeWire_ok {frame : Frame} {code : Byte} {data : List Byte} {i : Instr}
    (h : decodeWire frame code data = .ok i) : i.wellFormed = true ∧ encode i = .wire frame code data := by
  cases frame with
  | single => exact decodeSingle_ok h
  | lutBurst =>
    simp only [decodeWire] at h
    split_ifs at h with h32 hlen
    cases h
    exact ⟨by simpa [Instr.wellFormed] using hlen, h32 ▸ rfl⟩
  | initBurst k =>
    simp only [decodeWire] at h
    split_ifs at h with hlen
    cases h
    cases k <;> exact ⟨decide_eq_true hlen, rfl⟩

/-! ## Decoding what was encoded -/

/-- An INIT ROM burst of at most 15 data bytes decodes to its entry's instruction (R192). -/
theorem decode_initBurst (k : InitStep) (cmd : Byte) {data : List Byte} (h : decide (data.length ≤ 15) = true) :
    decode (.wire (.initBurst k) cmd data) = .ok (initInstr k cmd data) :=
  if_pos (of_decide_eq_true h)

/-- A LUT burst of 30 data bytes decodes to WRITE_LUT (R181). -/
theorem decode_lutBurst {lut : List Byte} (h : lut.length = 30) :
    decode (.wire .lutBurst 0x32#8 lut) = .ok (.writeLut lut) :=
  if_pos h

/-- 0x24 with the bytes of a window decodes to WRITE_RAM (R196). -/
theorem decode_writeRam {pixels : List Byte} (h : 1 ≤ pixels.length ∧ pixels.length ≤ maxPixels) :
    decode (.wire .single 0x24#8 pixels) = .ok (.writeRam pixels) :=
  if_pos h

end Sys2Proof.Machine

open Sys2Proof Sys2Proof.Machine

/-- Settles O1, one case a constructor: a request's and a fixed-shape command's encoding computes, and a
command with a list of data bytes decodes by their number. -/
theorem decodeOfEncodeIsTheInstruction : Obligations.DecodeOfEncodeIsTheInstruction := by
  intro i hi
  cases i with
  | writeLut lut => exact decode_lutBurst (beq_iff_eq.1 hi)
  | writeRam pixels => exact decode_writeRam (by simpa [Instr.wellFormed] using hi)
  | initPanelConfig cmd data => exact decode_initBurst .panelConfig cmd hi
  | initSoftStart cmd data => exact decode_initBurst .softStart cmd hi
  | initVcom cmd data => exact decode_initBurst .vcom cmd hi
  | initDummyLine cmd data => exact decode_initBurst .dummyLine cmd hi
  | initGateTime cmd data => exact decode_initBurst .gateTime cmd hi
  | initEntryMode cmd data => exact decode_initBurst .entryMode cmd hi
  | drawbitmap p => cases p <;> rfl
  | erase p => cases p <;> rfl
  | _ => rfl

/-- Settles O2: a CMD word is made of its opcode and P bit, and a wire command is decoded by its code. -/
theorem decodedEncodingIsTheOnlyOne : Obligations.DecodedEncodingIsTheOnlyOne := by
  intro e i h
  cases e with
  | wire frame code data => exact decodeWire_ok h
  | cmdWord v =>
    simp only [decode, decodeCmd] at h
    split at h
    · next hrsv =>
      obtain ⟨hwf, henc⟩ := requestOf_ok h
      exact ⟨hwf, henc.trans (congrArg _ (cmdWordOf_fields hrsv.1 hrsv.2))⟩
    · cases h

/-- Settles O3, by the fields of the word as numbers and the step of a write that presents no request. -/
theorem illegalCmdWordsAreRejected : Obligations.IllegalCmdWordsAreRejected := by
  intro v
  refine ⟨(forall_ne_ok_iff _).trans (decode_cmdWord_toOption_eq_none_iff v), fun s addr ts hv hl hr ha ht => ?_⟩
  have ho : HostAccess.offset ⟨true, addr, v⟩ = 0 := by rw [HostAccess.offset, ha, Nat.zero_mul]
  exact step_illegalWord hl hr rfl ho hv ht

/-- Settles O4, each word by the decoder's table. -/
theorem wordsOfTheTablesDecode : Obligations.WordsOfTheTablesDecode :=
  ⟨rfl, rfl, rfl, rfl, rfl, rfl, rfl, rfl, rfl⟩

end

section
namespace Sys2Proof.Machine

/-! ## The command bytes of a sequence (R102) -/

section Codes

variable (p : Params)

/-- Every command byte of an action list is a known one. -/
def CodesKnown (as : List Action) : Prop := ∀ a ∈ as, a.codeKnown p = true

@[simp] theorem codesKnown_nil : CodesKnown p [] := by simp [CodesKnown]

@[simp] theorem codesKnown_cons (a : Action) (as : List Action) :
    CodesKnown p (a :: as) ↔ a.codeKnown p = true ∧ CodesKnown p as := List.forall_mem_cons

@[simp] theorem codesKnown_append (as bs : List Action) :
    CodesKnown p (as ++ bs) ↔ CodesKnown p as ∧ CodesKnown p bs := List.forall_mem_append

@[simp] theorem codesKnown_flatMap {α : Type} (xs : List α) (f : α → List Action) :
    CodesKnown p (xs.flatMap f) ↔ ∀ x ∈ xs, CodesKnown p (f x) := List.forall_mem_flatMap

/-- The eight codes of R100 that stand in the table by their number are known. -/
theorem knownCode_of_mem {b : Byte}
    (h : b ∈ [0x44#8, 0x45#8, 0x4E#8, 0x4F#8, 0x24#8, 0x22#8, 0x20#8, 0xFF#8]) : knownCode p b = true := by
  simp only [knownCode, List.contains_iff_mem.2 h, Bool.true_or]

/-- An INIT ROM entry's command byte is known (R40). -/
theorem knownCode_initEntry (k : InitStep) : knownCode p (p.initEntry k).cmd = true := by
  have h : (InitStep.all.map fun k => (p.initEntry k).cmd).contains (p.initEntry k).cmd = true :=
    List.contains_iff_mem.2 (List.mem_map_of_mem (by cases k <;> decide))
  simp only [knownCode, h, Bool.or_true, Bool.true_or]

/-- Byte 0 of a LUT ROM is known (R184). -/
theorem knownCode_lut (m : LutMode) : knownCode p ((lutTable p m).headD 0#8) = true := by
  cases m <;> simp [knownCode]

/-- An action that carries data opens no command. -/
theorem Action.codeKnown_of_isData {a : Action} (h : a.isData = true) : a.codeKnown p = true := by
  cases a <;> simp_all [Action.isData, Action.codeKnown]

/-- A burst is known by its command byte (R144). -/
theorem codesKnown_burst (of : BurstOf) {b : Byte} (h : knownCode p b = true) (ds : List Byte) :
    CodesKnown p (burst of b ds) :=
  (codesKnown_cons p _ _).2 ⟨h, fun a ha => Action.codeKnown_of_isData p (burstData_isData ds a ha)⟩

/-- A window's pixel bytes open no command (R196). -/
theorem codesKnown_pixStream (w : Window) (src : Source) : CodesKnown p (pixStream w src) := by
  intro a ha
  obtain ⟨r, c, rfl⟩ := isPix_of_mem_pixStream ha
  rfl

theorem codesKnown_addressing (w : Window) : CodesKnown p (setRamArea p w ++ setRamPointer p w) := by
  simp [setRamArea, setRamPointer, dataAct, Action.codeKnown, knownCode_of_mem]

theorem codesKnown_controlPair (c : Byte) : CodesKnown p (controlPair c) := by
  simp [controlPair, dataAct, Action.codeKnown, knownCode_of_mem]

theorem codesKnown_powerOnPhase (m : LutMode) (w : Window) : CodesKnown p (powerOnPhase p m w) := by
  have hinit : ∀ k, CodesKnown p (initBurst p k) := fun k =>
    codesKnown_burst p _ (knownCode_initEntry p k) _
  have hlut : CodesKnown p (loadLut p m) := codesKnown_burst p _ (knownCode_lut p m) _
  have haddr := codesKnown_addressing p w
  simp only [codesKnown_append] at haddr
  simp [powerOnPhase, hinit, hlut, haddr, codesKnown_controlPair, Action.codeKnown]

theorem codesKnown_transfer (w : Window) (src : Source) : CodesKnown p (transfer w src) := by
  simp [transfer, codesKnown_pixStream, Action.codeKnown, knownCode_of_mem]

theorem codesKnown_trigger (m : LutMode) : CodesKnown p (trigger p m) := by
  simp [trigger, codesKnown_controlPair, Action.codeKnown, knownCode_of_mem]

theorem codesKnown_powerOffPhase : CodesKnown p (powerOffPhase p) := by
  simp [powerOffPhase, codesKnown_controlPair, Action.codeKnown]

theorem codesKnown_windowPass (w : Window) (src : Source) : CodesKnown p (windowPass p w src) := by
  have haddr := codesKnown_addressing p w
  simp only [codesKnown_append] at haddr
  have hlast : CodesKnown p (if p.winPass2Trigger then trigger p .part else []) := by
    split
    · exact codesKnown_trigger p _
    · exact codesKnown_nil p
  simp [windowPass, haddr, hlast, codesKnown_transfer, codesKnown_trigger, Action.codeKnown]

theorem codesKnown_fullPassSeq (m : LutMode) (src : Source) : CodesKnown p (fullPassSeq p m src) := by
  simp [fullPassSeq, codesKnown_powerOnPhase, codesKnown_transfer, codesKnown_trigger, codesKnown_powerOffPhase]

theorem codesKnown_windowSeq (w : Window) : CodesKnown p (windowSeq p w) := by
  simp [windowSeq, codesKnown_powerOnPhase, codesKnown_windowPass, codesKnown_powerOffPhase]

theorem codesKnown_pagePass (k : Nat) : CodesKnown p (pagePass p k) := by
  have haddr := codesKnown_addressing p (pageWindow p k)
  simp only [codesKnown_append] at haddr
  cases hc : p.pagePreclear <;> simp [pagePass, hc, haddr, codesKnown_windowPass, Action.codeKnown]

theorem codesKnown_pagedSeq : CodesKnown p (pagedSeq p) := by
  simp [pagedSeq, codesKnown_powerOnPhase, codesKnown_pagePass, codesKnown_powerOffPhase, Action.codeKnown]

theorem codesKnown_initSeq : CodesKnown p (initSeq p) := by
  unfold initSeq
  split <;> simp [Action.codeKnown]

/-- Every operation's sequence opens known commands only (R23, R102). -/
theorem codesKnown_expand (l : Latched) : CodesKnown p (expand p l) := by
  unfold expand
  split_ifs
  · exact codesKnown_initSeq p
  · exact codesKnown_fullPassSeq p _ _
  · exact codesKnown_fullPassSeq p _ _
  · exact codesKnown_windowSeq p _
  · exact codesKnown_pagedSeq p
  · exact codesKnown_fullPassSeq p _ _
  · exact codesKnown_nil p

end Codes

/-! ## What keeps the command bytes known (R102) -/

section KnownCodes

variable {s t : State}

/-- They are read from the record, the trace, the item on offer and the actions only. -/
theorem KnownCodes.congr (h : KnownCodes s) (hp : t.params = s.params := by rfl)
    (htr : t.trace = s.trace := by rfl) (hq : t.txq = s.txq := by rfl) (ha : t.acts = s.acts := by rfl) :
    KnownCodes t :=
  ⟨by rw [hp, htr]; exact h.emitted, by rw [hp, hq]; exact h.onOffer, by rw [hp, ha]; exact h.toCome⟩

/-- Known items stay so when one of them is consumed (R145). -/
theorem KnownCodes.consume (h : KnownCodes s) {it : BusItem} (hi : it.codeKnown s.params = true) :
    KnownCodes (s.consume it) where
  emitted o ho := by
    rcases List.mem_append.1 ho with ho | ho
    · exact h.emitted o ho
    · exact List.mem_singleton.1 ho ▸ hi
  onOffer o ho := by simp at ho
  toCome := h.toCome

/-- An emission keeps them where its item is known (R145). -/
theorem KnownCodes.emit (h : KnownCodes s) {it : BusItem} (hi : it.codeKnown s.params = true) :
    KnownCodes (s.emit it) := by
  rcases s.emit_cases it with ⟨-, he⟩ | ⟨-, he⟩ <;> rw [he]
  · exact h.consume hi
  · refine ⟨h.emitted, ?_, h.toCome⟩
    rintro _ ⟨⟩
    exact hi

/-- The gate keeps them where what is done behind it does (R141). -/
theorem KnownCodes.gate (h : KnownCodes s) {k : State → State}
    (hk : ∀ u : State, u.params = s.params → KnownCodes u → KnownCodes (k u)) : KnownCodes (s.gate k) := by
  rcases s.gate_outcome k with ⟨n, hn⟩ | ⟨n, hn⟩ <;> rw [hn]
  · exact hk _ rfl h.congr
  · exact h.congr

/-- So does the sending of a known item, or of the one on offer (R142). -/
theorem KnownCodes.send (h : KnownCodes s) (gated : Bool) {it : BusItem} (hi : it.codeKnown s.params = true) :
    KnownCodes (s.send gated it) := by
  rcases s.send_cases gated it with ⟨-, -, hs⟩ | ⟨-, -, hs⟩ | ⟨o, hq, -, hs⟩ | ⟨o, -, -, hs⟩ <;> rw [hs]
  · exact h.gate fun u hp hu => hu.emit (hp ▸ hi)
  · exact h.emit hi
  · exact h.consume (h.onOffer o hq)
  · exact h

/-- Every action to come keeps them, whether it completes or holds (R23). -/
theorem KnownCodes.actionStep (h : KnownCodes s) {a : Action} (ha : a.codeKnown s.params = true) :
    KnownCodes (s.actionStep a) := by
  cases a with
  | cmd b => exact h.send true ha
  | burstCmd of b last => exact h.send true ha
  | dat b first last => exact h.send false rfl
  | pix src r c =>
    have hsend := h.send false (it := ⟨true, s.pixelByte src r c, true, true⟩) rfl
    rcases s.viaSource_cases (fun t => t.send false ⟨true, t.pixelByte src r c, true, true⟩) with
      ⟨-, hv⟩ | ⟨b, -, -, hv⟩ | ⟨b, -, -, hv⟩ <;> rw [State.actionStep, hv]
    · exact hsend
    · exact hsend.congr
    · exact h.congr
  | waitBusy => exact h.gate fun u _ hu => hu.congr
  | delay n =>
    rcases s.delayStep_outcome n with ⟨c, hd⟩ | ⟨c, hd⟩ <;> rw [State.actionStep, hd] <;> exact h.congr
  | awaitPage =>
    rw [State.actionStep, State.awaitPageStep]
    split
    · exact h.congr
    · exact h
  | setPhase q => exact h.congr
  | setCursor v => exact h.congr
  | preclear => exact h.congr
  | raisePageReq => exact h.congr
  | setRst l => exact h.congr
  | done => exact ⟨h.emitted, h.onOffer, codesKnown_nil _⟩

/-- The sequencer's turn keeps them (R23). -/
theorem KnownCodes.sequencerStep (h : KnownCodes s) : KnownCodes s.sequencerStep := by
  rcases s.sequencerStep_cases with ⟨-, a, ha, hs⟩ | hs <;> rw [hs]
  · exact h.actionStep (h.toCome a (List.mem_of_getElem? ha))
  · exact h

/-- The start of an operation keeps them: its sequence opens known commands (R120). -/
theorem KnownCodes.startOperation (h : KnownCodes s) (op : BitVec 4) (p : Bool) (m : LutMode) :
    KnownCodes (s.startOperation op p m) :=
  ⟨h.emitted, h.onOffer, codesKnown_expand _ _⟩

/-- Every request keeps them (R92). -/
theorem KnownCodes.request (h : KnownCodes s) {i : Instr} (he : RequestEffect s t i) : KnownCodes t := by
  have hacc : KnownCodes { s with lastErr := .accepted } := h.congr
  cases he with
  | answered i c ht => exact ht ▸ h.congr
  | filled m ht => exact ht ▸ h.congr
  | pixel m b ht => exact ht ▸ h.congr
  | rotated r ht => exact ht ▸ h.congr
  | handedOver ht => exact ht ▸ h.congr
  | started i op p m _ _ ht => exact ht ▸ hacc.startOperation op p m
  | windowed m _ ht => exact ht ▸ (hacc.startOperation 6#4 false m).congr
  | dropped _ ht => exact ht ▸ h.congr

/-- A host access that is no request keeps them (R34, R261). -/
theorem KnownCodes.hostAccess (h : KnownCodes s) (a : HostAccess) : KnownCodes (s.hostAccess a) := by
  rcases s.hostAccess_outcome a with ⟨e, p, ha⟩ | ⟨-, -, -, r, ha⟩ <;> rw [ha] <;> exact h.congr

/-- The block reset withdraws the item on offer and the actions to come, and what is emitted stays (R280). -/
theorem KnownCodes.assertReset (h : KnownCodes s) : KnownCodes (s.driveRstN false) :=
  ⟨h.emitted, fun _ ho => (by cases ho), codesKnown_nil _⟩

/-- The other agents' turns keep them, the block reset included (R9, R280). -/
theorem KnownCodes.turnEffect (h : KnownCodes s) {tn : Turn} (hh : ∀ a, tn ≠ .host a) (hs : tn ≠ .sequencer) :
    KnownCodes (s.turnEffect tn) := by
  by_cases hr : tn = .rstN false
  · exact hr ▸ h.assertReset
  · obtain ⟨b, p, m, o, n, d, ht⟩ := s.turnEffect_outcome hh hs hr
    exact ht ▸ h.congr

end KnownCodes

end Sys2Proof.Machine

open Sys2Proof Sys2Proof.Machine

/-- Settles O31, by the kinds of turn: the sequencer's sends what is on offer or to come, and an operation's
sequence opens known commands. -/
theorem onlyKnownCommandBytesAreEmitted : Obligations.OnlyKnownCommandBytesAreEmitted := by
  intro s t h hs
  have hpop : KnownCodes s.popTurn := h.congr
  obtain ⟨-, ⟨a, i, -, -, -, hi, -, -, he⟩ | ⟨a, -, -, rfl⟩ | ⟨-, rfl⟩ | ⟨hh, hq, rfl⟩⟩ := step_cases hs
  · exact hpop.request (exec_requestEffect hi he)
  · exact hpop.hostAccess a
  · exact hpop.sequencerStep
  · exact hpop.turnEffect hh hq

end

section
namespace Sys2Proof.Machine

/-! ## What a request reads of the ARG registers (R98) -/

/-- The latched operands of two runs of a request agree where the request reads them (R98, R121). -/
structure LatchAgrees (i : Instr) (l m : Latched) : Prop where
  op : l.lOp = m.lOp
  p : l.lP = m.lP
  bitmap : ∀ p, i = .drawbitmap p → l.lBase = m.lBase ∧ l.lSize = m.lSize
  window : i = .updatewindow → l.lX = m.lX ∧ l.lY = m.lY ∧ l.lW = m.lW ∧ l.lH = m.lH
  unlatched : i ∈ [Instr.nop, .fill, .setpixel, .setrotation, .pagedone] → l = m

theorem LatchAgrees.refl (i : Instr) (l : Latched) : LatchAgrees i l l :=
  ⟨rfl, rfl, fun _ _ => ⟨rfl, rfl⟩, fun _ => ⟨rfl, rfl, rfl, rfl⟩, fun _ => rfl⟩

section Reads

variable {s : State} {a : Args}

/-- The operands that an acceptance latches from the ARG registers (R121). -/
def Args.latch (r : Args) (op : BitVec 4) (p : Bool) : Latched :=
  ⟨op, p, r.arg0.extractLsb' 0 16, r.arg0.extractLsb' 16 16, r.arg1.extractLsb' 0 16,
    r.arg1.extractLsb' 16 16, r.arg2, r.arg3⟩

theorem State.latchOperands_eq (s : State) (op : BitVec 4) (p : Bool) :
    s.latchOperands op p = { s with latched := s.args.latch op p } := rfl

/-- The start of an operation, with the latched operands by their name (R120). -/
theorem State.startOperation_eq (s : State) (op : BitVec 4) (p : Bool) (m : LutMode) :
    s.startOperation op p m = { s with
      latched := s.args.latch op p, partialLut := m.isPart, seqBusy := true
      acts := expand s.params (s.args.latch op p), pc := 0, srcOld := [] } := rfl

/-- A run of a request with other ARG registers differs by them and by latched operands that it does not
read. -/
def ReadsAlike (i : Instr) (a : Args) (t u : State) : Prop :=
  ∃ l, u = { t with args := a, latched := l } ∧ LatchAgrees i l t.latched

/-- A request that latches nothing reads alike where the rest of its effect does. -/
theorem readsAlike_of_eq {i : Instr} {t u : State} (h : u = { t with args := a }) : ReadsAlike i a t u :=
  ⟨t.latched, h, LatchAgrees.refl i _⟩

/-- Two runs that take the same branch read alike where both branches do. -/
theorem readsAlike_ite {i : Instr} {c d : Prop} [Decidable c] [Decidable d] {t u t' u' : State} (hcd : c ↔ d)
    (h : ReadsAlike i a t u) (h' : ReadsAlike i a t' u') :
    ReadsAlike i a (if c then t else t') (if d then u else u') := by
  by_cases hc : c
  · rwa [if_pos hc, if_pos (hcd.1 hc)]
  · rwa [if_neg hc, if_neg (mt hcd.2 hc)]

/-- Acceptance reads no ARG register, so a request reads what its body reads (R120). -/
theorem accept_readsAlike {i : Instr} {cls : RequestClass} {body : State → State}
    (h : ReadsAlike i a (body { s with lastErr := .accepted }) (body { s with lastErr := .accepted, args := a })) :
    ReadsAlike i a (s.accept cls body) (State.accept { s with args := a } cls body) := by
  have hrej : State.rejection { s with args := a } cls = s.rejection cls := by cases cls <;> rfl
  rcases s.accept_cases cls body with ⟨c, hr, hs⟩ | ⟨hr, hs⟩
  · rw [hs, State.accept_of_some (hrej.trans hr)]
    exact readsAlike_of_eq rfl
  · rw [hs, State.accept_of_none (hrej.trans hr)]
    exact h

/-- A sequence is built from the opcode, the P bit and, for UPDATEWINDOW, the window (R23). -/
theorem expand_congr (p : Params) {l m : Latched} (ho : l.lOp = m.lOp) (hp : l.lP = m.lP)
    (hw : l.lOp = 6#4 → l.window p = m.window p) : expand p l = expand p m := by
  by_cases h6 : m.lOp = 6#4
  · simp only [expand, ho, hp, hw (ho.trans h6)]
  · simp only [expand, ho, hp, h6, if_false]

/-- The start of an operation reads alike where the latched operands agree and, for UPDATEWINDOW, give one
window (R120, R121). -/
theorem startOperation_readsAlike {i : Instr} {op : BitVec 4} {p : Bool} {m : LutMode}
    (hl : LatchAgrees i (a.latch op p) (s.args.latch op p))
    (hw : op = 6#4 → (a.latch op p).window s.params = (s.args.latch op p).window s.params) :
    ReadsAlike i a (s.startOperation op p m) (State.startOperation { s with args := a } op p m) := by
  refine ⟨a.latch op p, ?_, hl⟩
  rw [State.startOperation_eq, State.startOperation_eq, ← expand_congr s.params hl.op hl.p hw]

/-- An operation other than DRAWBITMAP and UPDATEWINDOW reads no ARG register (R98). -/
theorem latchAgrees_of_no_operand {i : Instr}
    (hi : i ∈ [Instr.init, .update, .drawpaged] ∨ ∃ q, i = .erase q) (r r' : Args) (op : BitVec 4) (p : Bool) :
    LatchAgrees i (r.latch op p) (r'.latch op p) where
  op := rfl
  p := rfl
  bitmap q hq := by subst hq; simp at hi
  window hq := by subst hq; simp at hi
  unlatched hq := by
    simp only [List.mem_cons, List.not_mem_nil, or_false] at hi hq
    rcases hi with (rfl | rfl | rfl) | ⟨q, rfl⟩ <;> simp at hq

/-- So the run of such an operation reads alike. -/
theorem accept_start_readsAlike {i : Instr} (hi : i ∈ [Instr.init, .update, .drawpaged] ∨ ∃ q, i = .erase q)
    {op : BitVec 4} (ho : op ≠ 6#4) (p : Bool) (m : LutMode) :
    ReadsAlike i a (s.accept .idleOnly (fun t => t.startOperation op p m))
      (State.accept { s with args := a } .idleOnly (fun t => t.startOperation op p m)) :=
  accept_readsAlike (startOperation_readsAlike (latchAgrees_of_no_operand hi _ _ op p) fun h => absurd h ho)

/-- DRAWBITMAP reads ARG2 and ARG3 (R98). -/
theorem accept_drawbitmap_readsAlike (h2 : a.arg2 = s.args.arg2) (h3 : a.arg3 = s.args.arg3) (p : Bool) :
    ReadsAlike (.drawbitmap p) a (s.accept .idleOnly (fun t => t.startOperation 5#4 p (.ofP p)))
      (State.accept { s with args := a } .idleOnly (fun t => t.startOperation 5#4 p (.ofP p))) :=
  accept_readsAlike (startOperation_readsAlike
    ⟨rfl, rfl, fun _ _ => ⟨h2, h3⟩, by simp, by simp⟩ fun h => absurd h (by decide))

/-- UPDATEWINDOW reads ARG0 and ARG1 (R98). -/
theorem latchAgrees_updatewindow {r r' : Args} (h0 : r.arg0 = r'.arg0) (h1 : r.arg1 = r'.arg1) :
    LatchAgrees .updatewindow (r.latch 6#4 false) (r'.latch 6#4 false) where
  op := rfl
  p := rfl
  bitmap := by simp
  window _ := by simp only [Args.latch, h0, h1, and_self]
  unlatched := by simp

/-- So does its body, whether the window is dropped or drawn (R163, R204). -/
theorem updatewindow_readsAlike (h0 : a.arg0 = s.args.arg0) (h1 : a.arg1 = s.args.arg1) :
    ∃ t u, exec .updatewindow s = .next t ∧ exec .updatewindow { s with args := a } = .next u
      ∧ ReadsAlike .updatewindow a t u := by
  have hl := latchAgrees_updatewindow h0 h1
  refine ⟨_, _, rfl, rfl, accept_readsAlike (readsAlike_ite ?_ ⟨_, rfl, hl⟩ ?_)⟩
  · simp only [State.argX, State.argY, State.argWd, State.argHt, h0, h1]
  · obtain ⟨l, hu, hl⟩ := startOperation_readsAlike (s := { s with lastErr := .accepted })
      (m := .part) hl fun _ => by simp only [Latched.window, Args.latch, h0, h1]
    exact ⟨l, congrArg (State.setClip · false) hu, hl⟩

/-- Two registers with the same low bits have the same low field. -/
theorem extractLsb'_zero_congr {n : Nat} {v w : Word} (h : v.toNat % 2 ^ n = w.toNat % 2 ^ n) :
    v.extractLsb' 0 n = w.extractLsb' 0 n := by
  apply BitVec.eq_of_toNat_eq
  simpa [BitVec.extractLsb'_toNat] using h

/-- Painting a pixel reads no ARG register but what it is handed (R242). -/
theorem State.setPixel_args (s : State) (a : Args) (x y : Int) (c : Half) :
    State.setPixel { s with args := a } x y c = { s.setPixel x y c with args := a } := by
  have ht : State.pixelTarget { s with args := a } x y = s.pixelTarget x y := rfl
  unfold State.setPixel
  rw [ht]
  split <;> rfl

end Reads

/-! ## The fetched instruction -/

/-- A step runs the fetched instruction on the state less the turn taken (R23, R90). -/
theorem step_of_fetch {s : State} {i : Instr} (hl : s.params.legal = true) (hf : s.fetch = some i) :
    step s = exec i s.popTurn := by
  simp only [step, hl, if_true, hf]

end Sys2Proof.Machine

open Sys2Proof Sys2Proof.Machine

/-- Settles O14, by request: acceptance reads no ARG register, and each body reads its own fields only. -/
theorem requestsReadOnlyTheirOperands : Obligations.RequestsReadOnlyTheirOperands := by
  intro s a i p low hi
  suffices h : ∃ t u, exec i s = .next t ∧ exec i { s with args := a } = .next u ∧ ReadsAlike i a t u by
    obtain ⟨t, _, ht, hu, l, rfl, hl⟩ := h
    exact ⟨t, l, ht, hu, hl.op, hl.p, hl.bitmap p, hl.window, hl.unlatched⟩
  rcases hi with hi | ⟨rfl, h1⟩ | ⟨rfl, h0, h1⟩ | ⟨rfl, h2, h3⟩ | ⟨rfl, h0, h1⟩ | ⟨rfl, h0⟩
  · simp only [List.mem_cons, List.not_mem_nil, or_false] at hi
    rcases hi with rfl | rfl | rfl | rfl | rfl | rfl
    · exact ⟨_, _, rfl, rfl, accept_readsAlike (readsAlike_of_eq rfl)⟩
    · exact ⟨_, _, rfl, rfl, accept_start_readsAlike (.inl (by simp)) (by decide) _ _⟩
    · exact ⟨_, _, rfl, rfl, accept_start_readsAlike (.inl (by simp)) (by decide) _ _⟩
    · exact ⟨_, _, rfl, rfl, accept_start_readsAlike (.inl (by simp)) (by decide) _ _⟩
    · exact ⟨_, _, rfl, rfl, accept_readsAlike (readsAlike_of_eq rfl)⟩
    · exact ⟨_, _, rfl, rfl, accept_start_readsAlike (.inr ⟨p, rfl⟩) (by decide) _ _⟩
  · refine ⟨_, _, rfl, rfl, accept_readsAlike (readsAlike_of_eq ?_)⟩
    simp only [State.argColor, extractLsb'_zero_congr h1]
    rfl
  · refine ⟨_, _, rfl, rfl, accept_readsAlike (readsAlike_of_eq ?_)⟩
    simp only [State.argX, State.argY, State.argColor, h0, extractLsb'_zero_congr h1]
    exact State.setPixel_args { s with lastErr := .accepted } a _ _ _
  · exact ⟨_, _, rfl, rfl, accept_drawbitmap_readsAlike h2 h3 p⟩
  · exact updatewindow_readsAlike h0 h1
  · refine ⟨_, _, rfl, rfl, accept_readsAlike (readsAlike_of_eq ?_)⟩
    simp only [State.argRot, extractLsb'_zero_congr h0]

/-- Settles O24, by the two places a step looks for an instruction. -/
theorem stepRunsTheFetchedInstruction : Obligations.StepRunsTheFetchedInstruction := by
  refine ⟨fun s i hl hf => step_of_fetch hl hf, fun s addr v ts i hl hr ht ha hd => ?_⟩
  have ho : HostAccess.offset ⟨true, addr, v⟩ = 0 := by simp only [HostAccess.offset]; omega
  have hf : s.fetch = some i := by
    simp [State.fetch, State.turn, ht, State.presented, hr, ho, hd, Except.toOption]
  rw [step_of_fetch hl hf, State.popTurn, ht, List.tail_cons]

end

section
/-! PROOFS. NOP, INIT, SETROTATION and PAGEDONE where they are accepted (40_requests.md). -/

namespace Sys2Proof.Machine

/-! ## NOP (R122) -/

theorem exec_nop (s : State) : exec .nop s = .next { s with lastErr := .accepted } :=
  congrArg Host.Outcome.next (State.accept_of_none s.rejection_nop id)

/-- No word but 0 is NOP, since a decoded word is the encoding of what it gives (R92, R122). -/
theorem decode_cmdWord_eq_nop_iff (v : Word) : decode (.cmdWord v) = .ok .nop ↔ v = 0#32 := by
  constructor
  · intro h
    obtain ⟨-, henc⟩ := decodedEncodingIsTheOnlyOne _ _ h
    exact (Encoded.cmdWord.inj henc).symm
  · rintro rfl
    rfl

/-- A word with OP = 0 that is not NOP has P or a reserved bit set (R93). -/
theorem illegalWord_of_op_zero {v : Word} (hop : v.toNat % 16 = 0) (hv : v ≠ 0#32) : IllegalWord v := by
  have hpos : v.toNat ≠ 0 := fun h => hv (BitVec.eq_of_toNat_eq h)
  unfold IllegalWord
  omega

/-! ## INIT (R123) -/

/-- INIT's sequence, the two cases of RESET_PULSE_MS each written out. -/
theorem initSeq_eq (p : Params) :
    initSeq p = .setPhase .resetting ::
      (if p.resetPulseMs > 0
        then [.setRst false, .delay p.resetPulseMs, .setRst true, .delay p.resetRecoverMs,
              .setCursor 0xFF#8, .done]
        else [.setRst true, .setCursor 0xFF#8, .done]) := by
  unfold initSeq
  split <;> rfl

theorem itemCount_initSeq (p : Params) : itemCount (initSeq p) = 0 := by
  unfold initSeq
  split <;> rfl

/-- INIT with nothing running starts its sequence (R120, R121, R123). -/
theorem exec_init_of_idle {s : State} (h : s.seqBusy = false) :
    exec .init s = .next { s with
      lastErr := .accepted, partialLut := false, seqBusy := true, acts := initSeq s.params, pc := 0
      srcOld := [], latched := s.args.latch 1#4 false } := by
  obtain ⟨hidle, -, -⟩ := State.rejection_idle h
  exact congrArg Host.Outcome.next (State.accept_of_none hidle _)

/-! ## SETROTATION (R124) -/

/-- ARG0[1:0] as a number (R97). -/
theorem State.argRot_eq (s : State) : s.argRot = BitVec.ofNat 2 (s.args.arg0.toNat % 4) := by
  apply BitVec.eq_of_toNat_eq
  simp [State.argRot, BitVec.extractLsb'_toNat]

end Sys2Proof.Machine

open Sys2Proof Sys2Proof.Machine

/-- Settles O5: NOP is never rejected, its one word is 0, and any other word with OP = 0 is ILLEGAL. -/
theorem nopOnlyClearsLastErr : Obligations.NopOnlyClearsLastErr := by
  refine ⟨exec_nop, fun v _ => decode_cmdWord_eq_nop_iff v, fun s addr v ts hl hr ha hop ht => ?_⟩
  by_cases hv : v = 0#32
  · have hd : decode (.cmdWord v) = .ok .nop := (decode_cmdWord_eq_nop_iff v).2 hv
    rw [if_pos hv, stepRunsTheFetchedInstruction.2 s addr v ts .nop hl hr ht ha hd, exec_nop]
  · have ho : HostAccess.offset ⟨true, addr, v⟩ = 0 := by simp only [HostAccess.offset]; omega
    rw [if_neg hv, step_illegalWord hl hr rfl ho (illegalWord_of_op_zero hop hv) ht]

/-- Settles O6: the start of an operation with INIT's opcode, whose sequence has no emitting action. -/
theorem initStartsTheResetLineSequence : Obligations.InitStartsTheResetLineSequence := by
  intro s h
  rw [← initSeq_eq]
  exact ⟨exec_init_of_idle h, itemCount_initSeq s.params⟩

/-- Settles O7: SETROTATION is accepted with nothing running, and its operand is ARG0[1:0]. -/
theorem setrotationWritesRotationOnly : Obligations.SetrotationWritesRotationOnly := by
  intro s h
  obtain ⟨hidle, -, -⟩ := State.rejection_idle h
  rw [← State.argRot_eq]
  exact congrArg Host.Outcome.next (State.accept_of_none hidle _)

/-- Settles O8: PAGEDONE is accepted during a page request. -/
theorem pagedoneHandsThePageOver : Obligations.PagedoneHandsThePageOver := by
  intro s h hp
  obtain ⟨-, -, hpage⟩ := State.rejection_request h hp
  exact congrArg Host.Outcome.next (State.accept_of_none hpage _)

end

section
/-! PROOFS. The busy gate, the transport handshake and delays (41_busy_gate.md). -/

namespace Sys2Proof.Machine

/-! ## The step of a wire command (R142 to R146) -/

/-- Item `k` of a wire command, its framing said by its place: single transactions, or one from the
command item to the last data item (R99, R146). -/
def itemAt (f : Frame) (code : Byte) (data : List Byte) (k : Nat) : BusItem :=
  ⟨decide (0 < k), (code :: data).getD k 0#8, decide (f = .single ∨ k = 0),
    decide (f = .single ∨ k = data.length)⟩

theorem wireItem_eq_itemAt (f : Frame) (code : Byte) {data : List Byte} {k : Nat} (hk : k ≤ data.length) :
    wireItem f code data k = some (itemAt f code data k) := by
  cases k with
  | zero =>
    have hempty : data.isEmpty = decide (0 = data.length) := by cases data <;> simp
    cases f <;> simp [wireItem, itemAt, hempty]
  | succ j =>
    have hj : j < data.length := hk
    cases f <;> simp [wireItem, itemAt, hj, Bool.beq_eq_decide_eq]

section WireStep

variable {i : Instr} {f : Frame} {code : Byte} {data : List Byte} {s : State}

/-- A wire command's meaning is `sendWire`, for WRITE_RAM through the source port (R65, R196). -/
theorem exec_of_encode_wire (h : encode i = .wire f code data) (s : State) :
    (∃ pixels, i = .writeRam pixels) ∧ exec i s = .next (s.viaSource (·.sendWire f code data))
      ∨ (∀ pixels, i ≠ .writeRam pixels) ∧ exec i s = .next (s.sendWire f code data) := by
  cases i with
  | writeRam pixels => cases h; exact .inl ⟨⟨_, rfl⟩, rfl⟩
  | nop | init | fill | setpixel | update | drawbitmap | updatewindow | drawpaged | erase | setrotation
  | pagedone => cases h
  | _ => cases h; exact .inr ⟨nofun, rfl⟩

/-- At an item of the command that SRC does not give, the step sends that item (R142, R143, R148). -/
theorem exec_of_no_read (h : encode i = .wire f code data) (hk : s.itemIndex ≤ data.length)
    (hr : s.sourceRead = none ∨ ∀ pixels, i ≠ .writeRam pixels) :
    exec i s = .next (s.send (s.itemIndex == 0) (itemAt f code data s.itemIndex)) := by
  have hsend : s.sendWire f code data = s.send (s.itemIndex == 0) (itemAt f code data s.itemIndex) := by
    rw [State.sendWire, wireItem_eq_itemAt f code hk]
  rcases exec_of_encode_wire h s with ⟨⟨pixels, hi⟩, he⟩ | ⟨-, he⟩
  · have hnone : s.sourceRead = none := hr.resolve_right fun hne => hne pixels hi
    rw [he, State.viaSource, hnone, hsend]
  · rw [he, hsend]

/-- At an item that WRITE_RAM reads from SRC, the step sends it through the source port (R65). -/
theorem exec_of_read (h : encode i = .wire f code data) (hk : s.itemIndex ≤ data.length)
    {pixels : List Byte} (hi : i = .writeRam pixels) {a : Word} (hr : s.sourceRead = some a) :
    exec i s = .next (if s.pins.sAck
      then { s.send (s.itemIndex == 0) (itemAt f code data s.itemIndex) with
        pins := { s.pins with sReq := none }
        draw := if s.srcRaced a then s.draw + 1 else s.draw }
      else { s with pins := { s.pins with sReq := some a } }) := by
  rcases exec_of_encode_wire h s with ⟨-, he⟩ | ⟨hne, -⟩
  · rw [he, State.viaSource, hr, State.sendWire, wireItem_eq_itemAt f code hk]
    simp only [State.send_pins]
  · exact absurd hi (hne pixels)

end WireStep

/-! ## The gate and the transport (R141, R142, R145) -/

section Gate

variable {s : State}

/-- The first check sees busy: GATE_WAIT is set and the poll interval starts (R141). -/
theorem State.gate_first_busy (hg : s.gateWait = false) (hb : s.busyS = true) (k : State → State) :
    s.gate k = { s with gateWait := true, pollTicks := 0 } := by
  simp [State.gate, hg, hb]

/-- Between two polls the gate holds, whatever the line does (R141). -/
theorem State.gate_before_poll (hg : s.gateWait = true) (hp : s.pollTicks < s.params.pollMs)
    (k : State → State) : s.gate k = s := by
  simp [State.gate, hg, hp]

/-- A poll that sees busy starts the interval again (R141). -/
theorem State.gate_poll_busy (hg : s.gateWait = true) (hp : s.params.pollMs ≤ s.pollTicks)
    (hb : s.busyS = true) (k : State → State) : s.gate k = { s with pollTicks := 0 } := by
  simp [State.gate, hg, Nat.not_lt.2 hp, hb]

/-- A poll that sees the line idle opens the gate (R141). -/
theorem State.gate_poll_idle (hg : s.gateWait = true) (hp : s.params.pollMs ≤ s.pollTicks)
    (hb : s.busyS = false) (k : State → State) :
    s.gate k = k { s with gateWait := false, pollTicks := 0 } := by
  simp [State.gate, hg, Nat.not_lt.2 hp, hb]

/-- A gate being waited at under a busy line holds, and restarts its poll ticks at most (R147). -/
theorem State.gate_stuck (hg : s.gateWait = true) (hb : s.busyS = true) (k : State → State) :
    ∃ n, s.gate k = { s with pollTicks := n } := by
  rcases Nat.lt_or_ge s.pollTicks s.params.pollMs with hp | hp
  · exact ⟨s.pollTicks, State.gate_before_poll hg hp k⟩
  · exact ⟨0, State.gate_poll_busy hg hp hb k⟩

/-- A command item with nothing on offer is what the gate lets out (R148). -/
theorem State.send_command (hq : s.txq = none) (it : BusItem) : s.send true it = s.gate (·.emit it) := by
  simp [State.send, hq]

/-- An item on offer waits for the transport only (R142, R145). -/
theorem State.send_offered {o : BusItem} (hq : s.txq = some o) (gated : Bool) (it : BusItem) :
    s.send gated it = if s.pins.txReady then s.consume o else s := by
  simp [State.send, hq]

/-- With an item on offer no source read is due (R65). -/
theorem State.sourceRead_of_offered {o : BusItem} (hq : s.txq = some o) : s.sourceRead = none := by
  unfold State.sourceRead
  split <;> simp [hq]

/-- An item formed under a stalled transport, past an open gate, is left on offer (R145). -/
theorem State.send_stalled (hq : s.txq = none) (ht : s.pins.txReady = false) {gated : Bool}
    (hg : gated = true → s.gateWait = false ∧ s.busyS = false) (it : BusItem) :
    s.send gated it = { s with txq := some it } := by
  have hemit : s.emit it = { s with txq := some it } := by simp [State.emit, ht]
  cases gated with
  | false => simp [State.send, hq, hemit]
  | true =>
    obtain ⟨hgate, hbusy⟩ := hg rfl
    simp [State.send_command hq, State.gate, hgate, hbusy, hemit]

end Gate

/-! ## Turns (R9) -/

section Turns

variable {s : State} {ts : List Turn} {level : Bool}

/-- The step of a tick, field by field (R141, R149, R150). -/
theorem step_tick_eq (hl : s.params.legal = true) (ht : s.turns = .tick :: ts) :
    step s = .next { s with
      turns := ts
      pollTicks := if s.gateWait = true then s.pollTicks + 1 else s.pollTicks
      dcnt := if s.delayOn = true ∧ s.dcnt ≠ 0#32 then s.dcnt - 1#32 else s.dcnt } := by
  rw [step_tick hl ht, State.popTurn, ht, List.tail_cons]
  simp [State.tick]

/-- The step of a turn of the transport (R8, R9). -/
theorem step_txReady (hl : s.params.legal = true) (ht : s.turns = .txReady level :: ts) :
    step s = .next { s with turns := ts, pins := { s.pins with txReady := level } } := by
  have htn : s.turn = .txReady level := by simp [State.turn, ht]
  rw [step_other hl (by simp [htn]) (by simp [htn]), htn, State.popTurn, ht, List.tail_cons]
  rfl

/-- The step of a turn of the source port (R8, R9). -/
theorem step_sAck (hl : s.params.legal = true) (ht : s.turns = .sAck level :: ts) :
    step s = .next { s with turns := ts, pins := { s.pins with sAck := level } } := by
  have htn : s.turn = .sAck level := by simp [State.turn, ht]
  rw [step_other hl (by simp [htn]) (by simp [htn]), htn, State.popTurn, ht, List.tail_cons]
  rfl

/-- On the sequencer's turn a running operation steps the action at the cursor (R23). -/
theorem step_action {a : Action} (hl : s.params.legal = true) (hr : s.pins.rstN = true)
    (hb : s.seqBusy = true) (ht : s.turn = .sequencer) (ha : s.acts[s.pc]? = some a) :
    step s = .next (s.popTurn.actionStep a) := by
  rw [step_sequencer hl ht]
  simp [State.sequencerStep, hb, hr, ha]

end Turns

/-! ## A stuck busy line (R147) -/

/-- A running operation whose gated action waits at the gate under a busy line, with nothing on offer. -/
structure HeldInGate (s : State) : Prop where
  legal    : s.params.legal = true
  rstN     : s.pins.rstN = true
  seqBusy  : s.seqBusy = true
  action   : ∃ a, s.acts[s.pc]? = some a ∧ a.isGated = true
  txq      : s.txq = none
  delayOn  : s.delayOn = false
  busyS    : s.busyS = true
  gateWait : s.gateWait = true

section Held

variable {s : State}

/-- The hold does not depend on the poll ticks and the schedule. -/
theorem HeldInGate.congr (h : HeldInGate s) (ts : List Turn) (k : Nat) :
    HeldInGate { s with turns := ts, pollTicks := k } :=
  ⟨h.legal, h.rstN, h.seqBusy, h.action, h.txq, h.delayOn, h.busyS, h.gateWait⟩

/-- A gated action with nothing on offer goes through the gate (R148). -/
theorem State.actionStep_gated (hq : s.txq = none) {a : Action} (ha : a.isGated = true) :
    ∃ k, s.actionStep a = s.gate k := by
  cases a with
  | cmd b => exact ⟨_, State.send_command hq _⟩
  | burstCmd of b last => exact ⟨_, State.send_command hq _⟩
  | waitBusy => exact ⟨_, rfl⟩
  | _ => cases ha

/-- A turn of the sequencer or of the timer changes the poll ticks at most (R147). -/
theorem HeldInGate.step_eq (h : HeldInGate s) (ht : s.turn = .sequencer ∨ s.turn = .tick) :
    ∃ k, step s = .next { s with turns := s.turns.tail, pollTicks := k } := by
  rcases ht with ht | ht
  · obtain ⟨a, ha, hgated⟩ := h.action
    obtain ⟨k, hk⟩ := State.actionStep_gated (s := s.popTurn) h.txq hgated
    obtain ⟨n, hn⟩ := State.gate_stuck (s := s.popTurn) h.gateWait h.busyS k
    exact ⟨n, by rw [step_action h.legal h.rstN h.seqBusy ht ha, hk, hn]; rfl⟩
  · cases hs : s.turns with
    | nil => simp [State.turn, hs] at ht
    | cons t ts =>
      obtain rfl : t = .tick := by simpa [State.turn, hs] using ht
      exact ⟨s.pollTicks + 1, by rw [step_tick_eq h.legal hs]; simp [h.gateWait, h.delayOn]⟩

/-- However many such turns are taken, the hold stays (R147). -/
theorem HeldInGate.run (n : Nat) (h : HeldInGate s) (ht : ∀ t ∈ s.turns, t = .sequencer ∨ t = .tick) :
    ∃ k, runSteps n s = .next { s with turns := s.turns.drop n, pollTicks := k } := by
  induction n generalizing s with
  | zero => exact ⟨s.pollTicks, rfl⟩
  | succ n ih =>
    have hturn : s.turn = .sequencer ∨ s.turn = .tick := by
      cases hs : s.turns with
      | nil => exact .inl (by simp [State.turn, hs])
      | cons t ts => simpa [State.turn, hs] using ht t (by simp [hs])
    obtain ⟨k, hk⟩ := h.step_eq hturn
    obtain ⟨k', hk'⟩ := ih (h.congr s.turns.tail k) fun t hm => ht t (List.mem_of_mem_tail hm)
    exact ⟨k', by rw [runSteps_of_next hk, hk', List.drop_tail]⟩

end Held

/-! ## Delays (R149) -/

section Delay

variable {s : State} {n : Nat}

/-- Delay(0) completes in the step it starts. -/
theorem State.delayStep_zero (hon : s.delayOn = false) :
    s.delayStep 0 = { s.advance with dcnt := 0#32 } := by
  simp [State.delayStep, hon]

/-- The starting step of another delay loads DCNT. -/
theorem State.delayStep_start (hon : s.delayOn = false) (hn : BitVec.ofNat 32 n ≠ 0#32) :
    s.delayStep n = { s with dcnt := BitVec.ofNat 32 n, delayOn := true } := by
  simp [State.delayStep, hon, hn]

/-- A started delay holds while DCNT is not 0. -/
theorem State.delayStep_hold (hon : s.delayOn = true) (hd : s.dcnt ≠ 0#32) : s.delayStep n = s := by
  simp [State.delayStep, hon, hd]

/-- A started delay completes where DCNT is 0. -/
theorem State.delayStep_end (hon : s.delayOn = true) (hd : s.dcnt = 0#32) :
    s.delayStep n = { s.advance with delayOn := false } := by
  simp [State.delayStep, hon, hd]

/-- A tick takes one from DCNT, and none from 0. -/
theorem dcnt_after_tick (d : Word) :
    (if d ≠ 0#32 then d - 1#32 else d) = BitVec.ofNat 32 (d.toNat - 1) := by
  split <;> bv_omega

/-- A number of ticks under a started delay take as many from DCNT, and change nothing else. -/
theorem runSteps_ticks {ts : List Turn} (hl : s.params.legal = true) (hon : s.delayOn = true)
    (hg : s.gateWait = false) (m : Nat) (ht : s.turns = List.replicate m .tick ++ ts) :
    runSteps m s = .next { s with turns := ts, dcnt := BitVec.ofNat 32 (s.dcnt.toNat - m) } := by
  induction m generalizing s with
  | zero => simp [← (show s.turns = ts from ht)]
  | succ m ih =>
    have hstep : step s = .next { s with
        turns := List.replicate m .tick ++ ts, dcnt := BitVec.ofNat 32 (s.dcnt.toNat - 1) } := by
      rw [step_tick_eq hl (by rw [ht, List.replicate_succ, List.cons_append]), ← dcnt_after_tick]
      simp [hg, hon]
    have hlt : s.dcnt.toNat - 1 < 2 ^ 32 := by have := s.dcnt.isLt; omega
    rw [runSteps_of_next hstep, ih]
    · simp only [BitVec.toNat_ofNat, Nat.mod_eq_of_lt hlt, Nat.sub_sub, Nat.add_comm 1 m]
    · exact hl
    · exact hon
    · exact hg
    · rfl

/-- The starting step of a delay and `m` ticks leave DCNT at `n - m`. -/
theorem runSteps_delay {m : Nat} {ts : List Turn} (hl : s.params.legal = true) (hr : s.pins.rstN = true)
    (hb : s.seqBusy = true) (ha : s.acts[s.pc]? = some (.delay n)) (hon : s.delayOn = false)
    (hg : s.gateWait = false) (hn : n < 2 ^ 32) (hpos : 0 < n)
    (ht : s.turns = .sequencer :: (List.replicate m .tick ++ ts)) :
    runSteps (m + 1) s = .next { s with
      turns := ts, delayOn := true, dcnt := BitVec.ofNat 32 (n - m) } := by
  have hload : BitVec.ofNat 32 n ≠ 0#32 := by bv_omega
  have hstart : step s = .next { s with
      turns := List.replicate m .tick ++ ts, delayOn := true, dcnt := BitVec.ofNat 32 n } := by
    rw [step_action hl hr hb (by simp [State.turn, ht]) ha, State.popTurn, ht, List.tail_cons]
    exact congrArg Host.Outcome.next (State.delayStep_start hon hload)
  rw [runSteps_of_next hstart, runSteps_ticks (ts := ts)]
  · simp only [BitVec.toNat_ofNat, Nat.mod_eq_of_lt hn]
  · exact hl
  · rfl
  · exact hg
  · rfl

end Delay

end Sys2Proof.Machine

open Sys2Proof Sys2Proof.Machine

/-- Settles O22: at the command item the step is the gate in front of the emission. -/
theorem commandItemsWaitAtTheBusyGate : Obligations.CommandItemsWaitAtTheBusyGate := by
  refine ⟨fun s i f code data henc h0 hq => ?_, fun s ts hl ht => step_tick_eq hl ht⟩
  have hitem : itemAt f code data 0 = ⟨false, code, true, decide (f = .single ∨ data = [])⟩ := by
    simp [itemAt, eq_comm (a := 0)]
  have hexec : exec i s =
      .next (s.gate (·.emit ⟨false, code, true, decide (f = .single ∨ data = [])⟩)) := by
    rw [exec_of_no_read henc (by omega) (.inl (State.sourceRead_of_itemIndex_zero h0)), h0, hitem]
    exact congrArg Host.Outcome.next (State.send_command hq _)
  refine ⟨fun hg hb => ?_, fun hg hp => ?_, fun hg hp hb => ?_, fun hg hp hb => ?_⟩
  · rw [hexec, State.gate_first_busy hg hb]
  · rw [hexec, State.gate_before_poll hg hp]
  · rw [hexec, State.gate_poll_busy hg hp hb]
  · rw [hexec, State.gate_poll_idle hg hp hb, State.emit, State.consume, ← hq]
    rfl

/-- Settles O23: an item on offer waits for the transport only, and one formed behind it is left on offer. -/
theorem stalledTransportKeepsTheOffer : Obligations.StalledTransportKeepsTheOffer := by
  refine ⟨fun s i f code data henc hk => ?_, fun s level ts hl => ⟨step_txReady hl, step_sAck hl⟩⟩
  have hoffered : ∀ o, s.txq = some o →
      exec i s = .next (if s.pins.txReady then s.consume o else s) := fun o hq => by
    rw [exec_of_no_read henc hk (.inl (State.sourceRead_of_offered hq)), State.send_offered hq]
  refine ⟨fun o hq ht => ?_, fun o hq ht => ?_, fun hq ht hgate => ?_⟩
  · rw [hoffered o hq, ht]; rfl
  · rw [hoffered o hq, ht]; rfl
  · have hsend := State.send_stalled hq ht (gated := s.itemIndex == 0) (fun h0 => hgate (beq_iff_eq.1 h0))
      (itemAt f code data s.itemIndex)
    refine ⟨fun hr => ?_, fun a pixels hr hi => ?_⟩
    · rw [exec_of_no_read henc hk hr, hsend]; rfl
    · rw [exec_of_read henc hk hi hr, hsend]; rfl

/-- Settles O54: after the start and `m` ticks DCNT is `n - m`, which is 0 at `m = n` only. -/
theorem delayCountsExactlyItsTicks : Obligations.DelayCountsExactlyItsTicks := by
  intro s n m ts hl hr hb ha hon hg hn hm
  refine ⟨fun h0 ht => ?_, fun hpos ht => ?_⟩
  · subst h0
    rw [step_action hl hr hb (by simp [State.turn, ht]) ha, State.popTurn, ht, List.tail_cons]
    exact congrArg Host.Outcome.next (State.delayStep_zero hon)
  · have hrun := runSteps_delay hl hr hb ha hon hg hn hpos ht
    have hlast := step_action (a := .delay n) (s := { s with
      turns := .sequencer :: ts, delayOn := true, dcnt := BitVec.ofNat 32 (n - m) }) hl hr hb rfl ha
    rcases Nat.lt_or_eq_of_le hm with hlt | rfl
    · have hd : BitVec.ofNat 32 (n - m) ≠ 0#32 := by bv_omega
      refine ⟨{ s with turns := ts, delayOn := true, dcnt := BitVec.ofNat 32 (n - m) }, ?_,
        rfl, rfl, rfl, rfl, hg, fun _ => ⟨rfl, ?_⟩, fun he => absurd he hlt.ne⟩
      · rw [runSteps_add hrun 1, runSteps_one hlast]
        exact congrArg Host.Outcome.next (State.delayStep_hold rfl hd)
      · exact Nat.mod_eq_of_lt (by omega)
    · have hd : BitVec.ofNat 32 (m - m) = 0#32 := by rw [Nat.sub_self]
      refine ⟨{ s with turns := ts, pc := s.pc + 1, delayOn := false, dcnt := BitVec.ofNat 32 (m - m) }, ?_,
        rfl, rfl, rfl, rfl, hg, fun h => absurd h (lt_irrefl m), fun _ => ⟨rfl, hd⟩⟩
      rw [runSteps_add hrun 1, runSteps_one hlast]
      exact congrArg Host.Outcome.next (State.delayStep_end rfl hd)

/-- Settles O55: the three actions are the gated ones, and every such turn keeps the hold. -/
theorem stuckBusyLineHangs : Obligations.StuckBusyLineHangs := by
  intro s n a hl hr hb ha hgated hq hon hbusy hg ht
  have hag : a.isGated = true := by
    rcases hgated with rfl | ⟨b, rfl | ⟨burst, last, rfl⟩⟩ <;> rfl
  exact HeldInGate.run n ⟨hl, hr, hb, ⟨a, ha, hag⟩, hq, hon, hbusy, hg⟩ ht

end

section
/-! PROOFS. Windows, the addressing commands and their place in the sequences (42_ram_addressing.md). -/

namespace Sys2Proof.Machine

/-! ## Windows (R160 to R163, R171) -/

section Windows

variable {p : Params}

theorem lo8_toNat (v : Nat) : (lo8 v).toNat = v % 256 := BitVec.toNat_ofNat v 8

theorem hi8_toNat (v : Nat) : (hi8 v).toNat = v / 256 % 256 := BitVec.toNat_ofNat (v / 256) 8

/-- The two bytes of a 16-bit coordinate make it up (R161). -/
theorem lo8_add_hi8 {v : Nat} (h : v < 65536) : (lo8 v).toNat + 256 * (hi8 v).toNat = v := by
  rw [lo8_toNat, hi8_toNat]
  omega

/-- A request is dropped where it starts beyond the panel or is empty (R163). -/
theorem windowDropped_iff {x y w h : Nat} :
    windowDropped p x y w h = true ↔ x ≥ p.width ∨ y ≥ p.height ∨ w = 0 ∨ h = 0 := by
  simp [windowDropped, or_assoc]

theorem onPanel_fullWindow (h : p.legal = true) : (fullWindow p).onPanel p := by
  obtain ⟨-, hw, -, hh, -⟩ := Params.legal_geometry h
  simp only [Window.onPanel, fullWindow]
  omega

/-- A window as wide as the panel streams `WB` bytes a row (R160). -/
theorem count_of_fullWidth (h : p.legal = true) (y0 y1 : Nat) :
    Window.count ⟨0, p.width - 1, y0, y1⟩ = p.wb * (y1 - y0 + 1) := by
  obtain ⟨hmod, hw, -⟩ := Params.legal_geometry h
  have hnb : (p.width - 1) / 8 - 0 / 8 + 1 = p.width / 8 := by omega
  exact congrArg (· * (y1 - y0 + 1)) hnb

theorem count_fullWindow (h : p.legal = true) : (fullWindow p).count = p.wb * p.height := by
  obtain ⟨-, -, -, hh, -⟩ := Params.legal_geometry h
  rw [fullWindow, count_of_fullWidth h, show p.height - 1 - 0 + 1 = p.height by omega]

/-- A page of a legal record has a row (R6). -/
theorem Params.pageH_pos (h : p.legal = true) : 0 < p.pageH := by
  obtain ⟨-, -, -, hh, -⟩ := Params.legal_geometry h
  rw [Params.height_eq_pages h] at hh
  exact Nat.pos_of_mul_pos_left hh

/-- Each page ends within the panel (R171). -/
theorem page_end_le (h : p.legal = true) {k : Nat} (hk : k < p.pageCount) :
    k * p.pageH + p.pageH ≤ p.height := by
  rw [Params.height_eq_pages h, ← Nat.succ_mul]
  exact Nat.mul_le_mul_right _ hk

theorem onPanel_pageWindow (h : p.legal = true) {k : Nat} (hk : k < p.pageCount) :
    (pageWindow p k).onPanel p := by
  obtain ⟨-, hw, -⟩ := Params.legal_geometry h
  have hpos := Params.pageH_pos h
  have hend := page_end_le h hk
  simp only [Window.onPanel, pageWindow]
  omega

theorem count_pageWindow (h : p.legal = true) (k : Nat) : (pageWindow p k).count = p.pageBytes := by
  have hpos := Params.pageH_pos h
  rw [pageWindow, count_of_fullWidth h, Params.pageBytes,
    show k * p.pageH + p.pageH - 1 - k * p.pageH + 1 = p.pageH by omega]

theorem ye_pageWindow (h : p.legal = true) (k : Nat) :
    (pageWindow p k).ye p = p.height - p.pageH * (k + 1) := by
  have hpos := Params.pageH_pos h
  rw [Nat.mul_succ, Nat.mul_comm]
  simp only [Window.ye, pageWindow]
  omega

end Windows

/-! ## UPDATEWINDOW (R163, R204) -/

section Updatewindow

variable {s : State}

theorem extractLsb'_low_toNat (v : Word) : (v.extractLsb' 0 16).toNat = v.toNat % 65536 := by
  simp [BitVec.extractLsb'_toNat]

theorem extractLsb'_high_toNat (v : Word) : (v.extractLsb' 16 16).toNat = v.toNat / 65536 := by
  rw [BitVec.extractLsb'_toNat, Nat.shiftRight_eq_div_pow]
  omega

/-- UPDATEWINDOW's sequence, its phases written out (R204). -/
theorem windowSeq_eq (p : Params) (w : Window) :
    windowSeq p w = powerOnActions p true w ++ windowPassActions p w .fb ++ powerOffActions p := by
  rw [windowSeq, powerOnPhase_eq, windowPass_eq, powerOffPhase_eq, LutMode.isPart_part]

/-- UPDATEWINDOW with nothing running is dropped or started (R120, R163). -/
theorem exec_updatewindow_of_idle (h : s.seqBusy = false) :
    exec .updatewindow s = .next
      (if windowDropped s.params s.argX.toNat s.argY.toNat s.argWd.toNat s.argHt.toNat
        then { s with lastErr := .accepted, clip := true, latched := s.args.latch 6#4 false }
        else { s with
          lastErr := .accepted, clip := false, latched := s.args.latch 6#4 false, partialLut := true
          seqBusy := true, pc := 0, srcOld := []
          acts := windowSeq s.params ((s.args.latch 6#4 false).window s.params) }) := by
  obtain ⟨hidle, -, -⟩ := State.rejection_idle h
  exact congrArg Host.Outcome.next (State.accept_of_none hidle _)

end Updatewindow

/-! ## A wire command with everything ready (R142, R143, R145) -/

/-- Such a step sends the item at the cursor: only the trace and the cursor change. -/
theorem exec_of_ready {i : Instr} {f : Frame} {code : Byte} {data : List Byte} {s : State}
    (h : ReadyToSend s) (he : encode i = .wire f code data) (hk : s.itemIndex ≤ data.length)
    (hr : s.sourceRead = none ∨ ∀ pixels, i ≠ .writeRam pixels) :
    exec i s = .next { s with
      trace := s.trace ++ [itemAt f code data s.itemIndex], pc := s.pc + 1 } := by
  rw [exec_of_no_read he hk hr,
    State.send_open h.noOffer h.txReady _ (fun h0 => h.gateOpen (beq_iff_eq.1 h0)), State.consume, ← h.noOffer]
  rfl

/-- The items of a wire command sent singly: the code, then its data bytes, each its own transaction. -/
theorem itemAt_of_single {code : Byte} {data : List Byte} {k : Nat} {it : BusItem}
    (h : ((⟨false, code, true, true⟩ : BusItem) :: data.map (fun v => ⟨true, v, true, true⟩))[k]? = some it) :
    k ≤ data.length ∧ itemAt .single code data k = it := by
  cases k with
  | zero =>
    obtain rfl := Option.some.inj h
    exact ⟨Nat.zero_le _, rfl⟩
  | succ j =>
    simp only [List.getElem?_cons_succ, List.getElem?_map, Option.map_eq_some_iff] at h
    obtain ⟨v, hv, rfl⟩ := h
    obtain ⟨hj, -⟩ := List.getElem?_eq_some_iff.1 hv
    exact ⟨hj, by simp [itemAt, hv]⟩

/-- The step of a single-framed command that is not WRITE_RAM, at its item `it`. -/
theorem exec_of_ready_single {i : Instr} {code : Byte} {data : List Byte} {s : State} {it : BusItem}
    (h : ReadyToSend s) (he : encode i = .wire .single code data) (hne : ∀ pixels, i ≠ .writeRam pixels)
    (hit : ((⟨false, code, true, true⟩ : BusItem) :: data.map (fun v => ⟨true, v, true, true⟩))[s.itemIndex]?
      = some it) :
    exec i s = .next { s with trace := s.trace ++ [it], pc := s.pc + 1 } := by
  obtain ⟨hk, rfl⟩ := itemAt_of_single hit
  exact exec_of_ready h he hk (.inr hne)

/-! ## The addressing in front of each WRITE_RAM (R170) -/

section Addressed

variable (p : Params) (k : Nat) (as : List Action)

/-- Data actions leave the count of addressing commands alone. -/
theorem addressed_data_append {ds : List Action} (h : ∀ a ∈ ds, a.isData = true) :
    addressed k (ds ++ as) = addressed k as := by
  induction ds with
  | nil => rfl
  | cons a ds ih =>
    have hds := ih fun b hb => h b (List.mem_cons_of_mem a hb)
    cases a with
    | dat | pix => exact hds
    | _ => simp [Action.isData] at h

/-- So does a burst, whose command byte is no single command. -/
theorem addressed_burst_append (of : BurstOf) (b : Byte) (ds : List Byte) :
    addressed k (burst of b ds ++ as) = addressed k as :=
  (addressed_data_append k as (burstData_isData ds) :)

/-- So does a control pair: 0x22 and 0x20 address nothing. -/
theorem addressed_controlPair_append (c : Byte) : addressed k (controlPair c ++ as) = addressed k as := rfl

theorem addressed_trigger_append (m : LutMode) : addressed k (trigger p m ++ as) = addressed k as := rfl

theorem addressed_powerOffPhase : addressed k (powerOffPhase p) = true := rfl

/-- SetRamArea and SetRamPointer in a row are the four addressing commands in order (R168, R169). -/
theorem addressed_addressing_append (w : Window) :
    addressed k (setRamArea p w ++ (setRamPointer p w ++ as)) = addressed 4 as := rfl

/-- A transfer's 0x24 uses the addressing up (R196). -/
theorem addressed_transfer_append (w : Window) (src : Source) :
    addressed 4 (transfer w src ++ as) = addressed 0 as := by
  refine addressed_data_append 0 as fun a ha => ?_
  obtain ⟨r, c, rfl⟩ := isPix_of_mem_pixStream ha
  rfl

/-- The power-on phase leaves window and pointer set (R191). -/
theorem addressed_powerOnPhase_append (m : LutMode) (w : Window) :
    addressed k (powerOnPhase p m w ++ as) = addressed 4 as := by
  simp only [powerOnPhase, InitStep.all, initBurst, loadLut, List.flatMap_cons, List.flatMap_nil, List.append_nil,
    List.append_assoc, List.cons_append, List.nil_append, addressed, addressed_burst_append,
    addressed_addressing_append, addressed_controlPair_append]

/-- A window pass sets them again before its second transfer (R205). -/
theorem addressed_windowPass_append (w : Window) (src : Source) :
    addressed 4 (windowPass p w src ++ as) = addressed 0 as := by
  have hlast : addressed 0 ((if p.winPass2Trigger then trigger p .part else []) ++ as) = addressed 0 as := by
    split <;> rfl
  simp only [windowPass, List.append_assoc, List.cons_append, List.nil_append, addressed,
    addressed_transfer_append, addressed_trigger_append, addressed_addressing_append, hlast]

/-- A page's part sets them for the page's window (R206). -/
theorem addressed_pagePass_append (n : Nat) :
    addressed k (pagePass p n ++ as) = addressed 0 as := by
  cases hc : p.pagePreclear <;>
    simp only [pagePass, hc, List.append_assoc, List.cons_append, List.nil_append, addressed,
      addressed_addressing_append, addressed_windowPass_append]

/-- The pages' parts in a row, before a rest that needs no addressing (R206). -/
theorem addressed_pages_append {as : List Action} (h : ∀ k, addressed k as = true) (ns : List Nat) :
    addressed k (ns.flatMap (pagePass p) ++ as) = true := by
  induction ns generalizing k with
  | nil => exact h k
  | cons n ns ih => rw [List.flatMap_cons, List.append_assoc, addressed_pagePass_append, ih]

theorem addressed_fullPassSeq (m : LutMode) (src : Source) : addressed k (fullPassSeq p m src) = true := by
  simp only [fullPassSeq, List.append_assoc, addressed_powerOnPhase_append, addressed_transfer_append,
    addressed_trigger_append, addressed_powerOffPhase]

theorem addressed_windowSeq (w : Window) : addressed k (windowSeq p w) = true := by
  simp only [windowSeq, List.append_assoc, addressed_powerOnPhase_append, addressed_windowPass_append,
    addressed_powerOffPhase]

theorem addressed_pagedSeq : addressed k (pagedSeq p) = true := by
  simp only [pagedSeq, List.append_assoc, addressed_powerOnPhase_append]
  exact addressed_pages_append p 4 (as := [.setCursor 0xFF#8] ++ powerOffPhase p) (addressed_powerOffPhase p) _

theorem addressed_initSeq : addressed k (initSeq p) = true := by
  unfold initSeq
  split <;> rfl

end Addressed

end Sys2Proof.Machine

open Sys2Proof Sys2Proof.Machine

/-- Settles O43: the geometry of a legal record bounds every coordinate, and its pages tile the rows. -/
theorem windowDescriptorsLoseNothing : Obligations.WindowDescriptorsLoseNothing := by
  intro p w hl
  refine ⟨fun hw => ?_, onPanel_fullWindow hl, count_fullWindow hl, fun k hk =>
    ⟨onPanel_pageWindow hl hk, count_pageWindow hl k, rfl, ye_pageWindow hl k⟩⟩
  obtain ⟨-, -, hwidth, -, hheight, -⟩ := Params.legal_geometry hl
  obtain ⟨hx, hx1, hy, hy1⟩ := hw
  have hxs : w.xs < 256 := by simp only [Window.xs]; omega
  have hxe : w.xe < 256 := by simp only [Window.xe]; omega
  refine ⟨Nat.div_le_div_right hx, Nat.sub_le_sub_left hy _, rfl, rfl, ?_, ?_, lo8_add_hi8 ?_, lo8_add_hi8 ?_⟩
  · rw [lo8_toNat, Nat.mod_eq_of_lt hxs]; rfl
  · rw [lo8_toNat, Nat.mod_eq_of_lt hxe]; rfl
  · simp only [Window.ys]; omega
  · simp only [Window.ye]; omega

/-- Settles O44: the request starts on the panel and is not empty, so the clamp cuts its far edges only. -/
theorem clampedWindowIsTheVisiblePart : Obligations.ClampedWindowIsTheVisiblePart := by
  intro p x y w h hd
  have hin := mt windowDropped_iff.2 (Bool.not_eq_true _ ▸ hd)
  simp only [clampWindow, Window.onPanel]
  refine ⟨by omega, fun px py => by omega⟩

/-- Settles O17: each of the four is a single-framed command with its bytes in order. -/
theorem ramAddressingCommandsSendTheirItems : Obligations.RamAddressingCommandsSendTheirItems := by
  intro s a b c d it h
  refine ⟨?_, ?_, ?_, ?_⟩ <;> exact exec_of_ready_single h rfl nofun

/-- Settles O48, by the count of addressing commands after each part of a sequence. -/
theorem addressingPrecedesEveryWriteRam : Obligations.AddressingPrecedesEveryWriteRam := by
  intro p l
  unfold expand
  split_ifs
  · exact addressed_initSeq p 0
  · exact addressed_fullPassSeq p 0 _ _
  · exact addressed_fullPassSeq p 0 _ _
  · exact addressed_windowSeq p 0 _
  · exact addressed_pagedSeq p 0
  · exact addressed_fullPassSeq p 0 _ _
  · rfl

/-- Settles O13: acceptance where nothing runs, with the operands as numbers and the sequence written out. -/
theorem updatewindowClampsOrDrops : Obligations.UpdatewindowClampsOrDrops := by
  intro s hs x y w h W H win l
  rw [exec_updatewindow_of_idle hs, windowSeq_eq]
  simp only [Latched.window, Args.latch, State.argX, State.argY, State.argWd, State.argHt, extractLsb'_low_toNat,
    extractLsb'_high_toNat, windowDropped_iff]
  rfl

end

section
/-! PROOFS. The LUT loader's transaction, and the parameter records refused (43_lut_loader.md,
93_implementation_defined.md U3). -/

namespace Sys2Proof.Machine

/-! ## The items of a burst (R99, R144) -/

section Burst

variable {f : Frame} {code : Byte} {data : List Byte}

/-- A burst's command item opens the transaction, and closes it only where no data follows. -/
theorem itemAt_burst_zero (hf : f ≠ .single) :
    itemAt f code data 0 = ⟨false, code, true, decide (data = [])⟩ := by
  simp [itemAt, hf, eq_comm (a := 0)]

/-- A burst's data item continues the transaction, and the last one closes it. -/
theorem itemAt_burst_succ (hf : f ≠ .single) {j : Nat} {b : Byte} (hb : data[j]? = some b) :
    itemAt f code data (j + 1) = ⟨true, b, false, decide (j + 1 = data.length)⟩ := by
  simp [itemAt, hf, hb]

end Burst

/-- No turn runs under an illegal record (U3). -/
theorem step_of_illegal {s : State} (h : s.params.legal = false) :
    step s = .refused .illegalConfiguration := by
  simp [step, h]

end Sys2Proof.Machine

namespace Sys2Proof

/-! ## The records that are not legal (R6, R39, R40, R41, R161, R184) -/

section Illegal

variable {p : Params}

/-- A geometry is illegal where one of R6's bounds fails. -/
theorem Params.legalGeometry_eq_false_iff :
    p.legalGeometry = false ↔
      p.width % 8 ≠ 0 ∨ p.width < 8 ∨ 2048 < p.width ∨ p.height < 1 ∨ 65535 < p.height ∨ p.bpp ≠ 1 ∨
        p.pageCount < 1 ∨ 127 < p.pageCount ∨ p.height % p.pageCount ≠ 0 ∨
        p.fbBytes < 1 ∨ 65536 < p.fbBytes ∨ p.fbBytes < p.pageBytes := by
  simp only [Params.legalGeometry, Bool.and_eq_false_iff, beq_eq_false_iff_ne, decide_eq_false_iff_not,
    Nat.not_le, or_assoc]

/-- Some INIT entry is too long for its ROM (R40). -/
theorem Params.initEntries_too_long_iff :
    InitStep.all.all (fun k => decide ((p.initEntry k).data.length ≤ 15)) = false ↔
      ∃ e ∈ [p.panelConfig, p.softStart, p.vcom, p.dummyLine, p.gateTime, p.entryMode],
        15 < e.data.length := by
  change _ ↔ ∃ e ∈ InitStep.all.map p.initEntry, 15 < e.data.length
  simp only [List.all_eq_false, List.mem_map, exists_exists_and_eq_and, decide_eq_true_eq, Nat.not_le]

/-- ENTRY_MODE selects X incrementing, Y decrementing and X first, or the record is illegal (R161). -/
theorem Params.entrySelects_ne_iff :
    p.entrySelects ≠ ⟨true, false, true⟩ ↔
      ¬(p.entrySelects.xIncrement = true ∧ p.entrySelects.yIncrement = false ∧
        p.entrySelects.xFirst = true) := by
  rw [Ne, EntryMode.mk.injEq]

/-- The ROMs are illegal by one of U3's three kinds, or by the length of a table. -/
theorem Params.legalRoms_eq_false_iff :
    p.legalRoms = false ↔
      (p.lutFull.head? ≠ some 0x32#8 ∨ p.lutPart.head? ≠ some 0x32#8 ∨
        ¬(p.entrySelects.xIncrement = true ∧ p.entrySelects.yIncrement = false ∧
          p.entrySelects.xFirst = true) ∨
        p.updCtrlFull = p.updCtrlPart) ∨
      (p.lutFull.length ≠ 31 ∨ p.lutPart.length ≠ 31 ∨
        ∃ e ∈ [p.panelConfig, p.softStart, p.vcom, p.dummyLine, p.gateTime, p.entryMode],
          15 < e.data.length) := by
  simp only [Params.legalRoms, Bool.and_eq_false_iff, beq_eq_false_iff_ne, bne_eq_false_iff_eq,
    Params.initEntries_too_long_iff, Params.entrySelects_ne_iff, or_assoc, or_left_comm, or_comm]

/-- A record is illegal by its poll interval, its geometry or its ROMs. -/
theorem Params.legal_eq_false_iff :
    p.legal = false ↔ p.pollMs < 1 ∨ p.legalGeometry = false ∨ p.legalRoms = false := by
  simp only [Params.legal, Bool.and_eq_false_iff, decide_eq_false_iff_not, Nat.not_le]

end Illegal

end Sys2Proof

open Sys2Proof Sys2Proof.Machine

/-- Settles O18: WRITE_LUT is a burst of 0x32 and its 30 bytes, sent an item a step. -/
theorem writeLutSendsOneBurst : Obligations.WriteLutSendsOneBurst := by
  intro s lut b h hlen
  have hburst : Frame.lutBurst ≠ .single := nofun
  have hexec : s.itemIndex ≤ 30 → exec (.writeLut lut) s = .next { s with
      trace := s.trace ++ [itemAt .lutBurst 0x32#8 lut s.itemIndex], pc := s.pc + 1 } := fun hk =>
    exec_of_ready h rfl (hlen ▸ hk) (.inr nofun)
  refine ⟨fun h0 => ?_, fun j hj hi hb => ?_⟩
  · have hdata : lut ≠ [] := List.ne_nil_of_length_pos (by omega)
    rw [hexec (by omega), h0, itemAt_burst_zero hburst, decide_eq_false hdata]
  · have hlast : decide (j + 1 = lut.length) = decide (j = 29) := decide_eq_decide.2 (by omega)
    rw [hexec (by omega), hi, itemAt_burst_succ hburst hb, hlast]

/-- Settles O26: the record's legality is the conjunction of its checks, and `step` looks at it first. -/
theorem illegalConfigurationIsRefused : Obligations.IllegalConfigurationIsRefused := by
  intro s P namedByU3 geometry lengths illegal
  have hgeometry : P.legalGeometry = false ↔ geometry := Params.legalGeometry_eq_false_iff
  have hroms : P.legalRoms = false ↔ namedByU3 ∨ lengths := Params.legalRoms_eq_false_iff
  have hillegal : P.legal = false ↔ illegal := by
    rw [Params.legal_eq_false_iff, hgeometry, hroms, or_comm, or_left_comm, or_assoc,
      or_assoc (a := geometry)]
  exact ⟨hillegal, fun h => step_of_illegal (hillegal.2 h)⟩

end

section
/-! PROOFS. The sequencer: its phase changes, and the steps of its wire commands and of the actions that are no
instruction (44_sequencer.md). -/

namespace Sys2Proof.Machine

/-! ## PHASE (R24, R190) -/

/-- PHASE after an action: `SetPhase` and `Done` alone write it (R191, R201). -/
def Action.phaseAfter : Action → Phase → Phase
  | .setPhase q, _ => q
  | .done, _ => .idle
  | _, ph => ph

theorem State.actionStep_phase (s : State) (a : Action) :
    (s.actionStep a).phase = a.phaseAfter s.phase := by
  have hsend : ∀ (g : Bool) (it : BusItem), (s.send g it).phase = s.phase := fun g it =>
    (congrArg State.phase (s.send_sansSending g it) :)
  cases a with
  | cmd b => exact hsend _ _
  | burstCmd of b last => exact hsend _ _
  | dat b first last => exact hsend _ _
  | pix src r c =>
    rcases s.viaSource_cases (fun t => t.send false ⟨true, t.pixelByte src r c, true, true⟩) with
      ⟨-, h⟩ | ⟨b, -, -, h⟩ | ⟨b, -, -, h⟩ <;> rw [State.actionStep, h]
    · exact hsend _ _
    · exact hsend _ _
    · rfl
  | waitBusy => exact (congrArg State.phase (s.gate_sansSending (k := State.advance) fun _ => rfl) :)
  | delay n => rcases s.delayStep_outcome n with ⟨c, h⟩ | ⟨c, h⟩ <;> rw [State.actionStep, h] <;> rfl
  | awaitPage => rw [State.actionStep, State.awaitPageStep]; split <;> rfl
  | setPhase q => rfl
  | setCursor v => rfl
  | preclear => rfl
  | raisePageReq => rfl
  | setRst l => rfl
  | done => rfl

/-- The action at the cursor of a running operation leaves PHASE alone or makes a legal change. -/
theorem CourseInv.phaseAfter_legal {s : State} (h : CourseInv s) (hb : s.seqBusy = true) {a : Action}
    (ha : s.acts[s.pc]? = some a) :
    a.phaseAfter s.phase = s.phase ∨ phaseEdge s.phase (a.phaseAfter s.phase) = true := by
  have hw := h.wellPhased_cons hb ha
  cases a with
  | setPhase q =>
    simp only [wellPhased, Bool.and_eq_true, Bool.or_eq_true, beq_iff_eq] at hw
    obtain ⟨⟨-, hedge⟩, -⟩ := hw
    exact hedge
  | done =>
    simp only [wellPhased, Bool.and_eq_true] at hw
    exact .inr hw.2
  | _ => exact .inl rfl

/-- No request writes PHASE: the first action of the operation it starts does (R120, R191). -/
theorem RequestEffect.phase_eq {s t : State} {i : Instr} (h : RequestEffect s t i) : t.phase = s.phase := by
  cases h with
  | answered i c h => rw [h]; rfl
  | filled m h => rw [h]
  | pixel m b h => rw [h]
  | rotated r h => rw [h]
  | handedOver h => rw [h]
  | started i op p m hb hi h => rw [h]; rfl
  | windowed m hb h => rw [h]; rfl
  | dropped hb h => rw [h]; rfl

theorem State.hostAccess_phase (s : State) (a : HostAccess) : (s.hostAccess a).phase = s.phase := by
  rcases s.hostAccess_outcome a with ⟨e, p, h⟩ | ⟨-, -, -, r, h⟩ <;> rw [h]

/-! ## The actions that are no instruction (R23) -/

/-- The gate as one choice: hold between polls, wait where the check sees busy, or pass (R141). -/
theorem State.gate_eq_ite (s : State) (k : State → State) :
    s.gate k = if s.gateWait = true ∧ s.pollTicks < s.params.pollMs then s
      else if s.busyS = true then { s with gateWait := true, pollTicks := 0 }
      else if s.gateWait = true then k { s with gateWait := false, pollTicks := 0 }
      else k s := by
  rcases s.gate_cases k with ⟨hg, hb, h⟩ | ⟨hg, hb, hp, h⟩ | ⟨hg, hb, h⟩ | ⟨hg, hp, hb, h⟩ | ⟨hg, hp, h⟩
  · simp [h, hg, hb]
  · simp [h, hg, hb, Nat.not_lt.2 hp]
  · simp [h, hg, hb]
  · simp [h, hg, hb, Nat.not_lt.2 hp]
  · simp [h, hg, hp]

/-- `WaitBusy` is the gate in front of the cursor's advance (R148, R200). -/
theorem State.actionStep_waitBusy (s : State) : s.actionStep .waitBusy = s.gate State.advance := rfl

theorem State.awaitPageStep_of_pdone {s : State} (h : s.pdone = true) :
    s.awaitPageStep = { s.advance with pdone := false } := by
  simp [State.awaitPageStep, h]

theorem State.awaitPageStep_of_no_pdone {s : State} (h : s.pdone = false) : s.awaitPageStep = s := by
  simp [State.awaitPageStep, h]

/-- `SetRst` drives `panel_rst_n`, which is observed where its level changes (R46, R10). -/
theorem State.actionStep_setRst (s : State) (l : Bool) :
    s.actionStep (.setRst l) = { s with
      pc := s.pc + 1, rstOut := l, rstTrace := if s.rstOut = l then s.rstTrace else s.rstTrace ++ [l] } := by
  simp only [State.actionStep, State.driveRst, State.advance, beq_iff_eq]

/-! ## INIT ROM entries as instructions (R192) -/

/-- Each INIT ROM instruction is entry `k`'s burst for one `k`. -/
theorem exists_encode_initBurst {i : Instr} {cmd : Byte} {data : List Byte}
    (h : i ∈ [Instr.initPanelConfig cmd data, .initSoftStart cmd data, .initVcom cmd data,
      .initDummyLine cmd data, .initGateTime cmd data, .initEntryMode cmd data]) :
    ∃ k, encode i = .wire (.initBurst k) cmd data := by
  simp only [List.mem_cons, List.not_mem_nil, or_false] at h
  rcases h with rfl | rfl | rfl | rfl | rfl | rfl
  · exact ⟨.panelConfig, rfl⟩
  · exact ⟨.softStart, rfl⟩
  · exact ⟨.vcom, rfl⟩
  · exact ⟨.dummyLine, rfl⟩
  · exact ⟨.gateTime, rfl⟩
  · exact ⟨.entryMode, rfl⟩

end Sys2Proof.Machine

open Sys2Proof Sys2Proof.Machine

/-- Settles O30, by the kinds of turn: the sequencer's changes keep to R190 by the invariant, and among the
other turns only the assertion of `rst_n` writes PHASE. -/
theorem phaseChangesAreLegal : Obligations.PhaseChangesAreLegal := by
  intro s t h hs
  obtain ⟨-, hcourse, -⟩ := inv_iff.1 h
  have hpop : CourseInv s.popTurn := hcourse.congr
  obtain ⟨-, ⟨a, i, -, -, -, hi, -, -, he⟩ | ⟨a, -, -, rfl⟩ | ⟨-, rfl⟩ | ⟨hh, hq, rfl⟩⟩ := step_cases hs
  · exact .inl (exec_requestEffect hi he).phase_eq
  · exact .inl (s.popTurn.hostAccess_phase a)
  · rcases s.popTurn.sequencerStep_cases with ⟨hb, a, ha, hstep⟩ | hstep <;> rw [hstep]
    · rw [State.actionStep_phase]
      exact (hpop.phaseAfter_legal hb ha).imp_right .inl
    · exact .inl rfl
  · by_cases hrst : s.turn = .rstN false
    · exact .inr (.inr ⟨hrst, by rw [hrst]; rfl⟩)
    · obtain ⟨b, p, m, o, n, d, heff⟩ := s.popTurn.turnEffect_outcome hh hq hrst
      exact .inl (by rw [heff]; rfl)

/-- Settles O19: WRITE_RAM is a single-framed command, through the source port where SRC gives the byte. -/
theorem writeRamSendsPixelItems : Obligations.WriteRamSendsPixelItems := by
  intro s pixels it h hit
  have henc : encode (.writeRam pixels) = .wire .single 0x24#8 pixels := rfl
  obtain ⟨hk, hitem⟩ := itemAt_of_single hit
  refine ⟨fun hr => ?_, fun a hr hack => ?_, fun a hr hack => ?_⟩
  · rw [exec_of_ready h henc hk (.inl hr), hitem]
  · rw [exec_of_read henc hk rfl hr, if_pos hack, hitem,
      State.send_open h.noOffer h.txReady _ (fun h0 => h.gateOpen (beq_iff_eq.1 h0)), State.consume, ← h.noOffer]
    rfl
  · rw [exec_of_read henc hk rfl hr, hack]
    rfl

/-- Settles O20: each of the three is a single-framed command. -/
theorem controlCommandsSendTheirItems : Obligations.ControlCommandsSendTheirItems := by
  intro s ctrl h
  refine ⟨fun hi => ?_, fun hi => ?_, fun hi => ?_, fun hi => ?_⟩
  · exact exec_of_ready_single (data := [ctrl]) h rfl nofun (by rw [hi]; rfl)
  · exact exec_of_ready_single (data := [ctrl]) h rfl nofun (by rw [hi]; rfl)
  · exact exec_of_ready_single (data := []) h rfl nofun (by rw [hi]; rfl)
  · exact exec_of_ready_single (data := []) h rfl nofun (by rw [hi]; rfl)

/-- Settles O21: each entry is a burst of its command byte and its data. -/
theorem initTableEntriesSendOneBurst : Obligations.InitTableEntriesSendOneBurst := by
  intro s i cmd data h hi
  obtain ⟨k, henc⟩ := exists_encode_initBurst hi
  have hburst : Frame.initBurst k ≠ .single := nofun
  have hram : ∀ pixels, i ≠ .writeRam pixels := by
    rintro pixels rfl
    cases henc
  refine ⟨fun h0 => ?_, fun j b hj hb => ?_⟩
  · rw [exec_of_ready h henc (by omega) (.inr hram), h0, itemAt_burst_zero hburst]
  · obtain ⟨hlt, -⟩ := List.getElem?_eq_some_iff.1 hb
    rw [exec_of_ready h henc (by omega) (.inr hram), hj, itemAt_burst_succ hburst hb]

/-- Settles O56, by the step of the action at the cursor, action by action. -/
theorem awaitPageHoldsUntilPageDone : Obligations.AwaitPageHoldsUntilPageDone := by
  intro s a hl hr hb ht ha held past
  have hstep : step s = .next (held.actionStep a) := step_action hl hr hb ht ha
  refine ⟨?_, ?_, ?_, ?_, ?_, ?_, ?_, ?_, ?_⟩
  · rintro rfl hd
    exact hstep.trans (congrArg _ (State.awaitPageStep_of_no_pdone (s := held) hd))
  · rintro rfl hd
    exact hstep.trans (congrArg _ (State.awaitPageStep_of_pdone (s := held) hd))
  · rintro rfl
    exact hstep
  · rintro v rfl
    exact hstep
  · rintro q rfl
    exact hstep
  · rintro l rfl
    exact hstep.trans (congrArg _ (held.actionStep_setRst l))
  · rintro rfl
    exact ⟨_, hstep, rfl, fun j => held.fbByte_fillFb s.params.pageBytes j 0x00#8⟩
  · rintro rfl
    rw [hstep, State.actionStep_waitBusy, State.gate_eq_ite]
    rfl
  · rintro rfl
    exact hstep

end

section
/-! PROOFS. The sequences of the operations: what each of their parts sends, streams and ends with
(44_sequencer.md). -/

namespace Sys2Proof.Machine

/-! ## The pixel stream of a window (R196) -/

section PixelStream

variable (src : Source)

/-- The `Pix` actions of one row. -/
def pixRow (xs nb r : Nat) : List Action := (List.range' xs nb).map (fun c => .pix src r c)

theorem pixStream_eq_rows (w : Window) :
    pixStream w src = (List.range' w.y0 w.nr).flatMap (pixRow src w.xs w.nb) := rfl

@[simp] theorem pixRow_length (xs nb r : Nat) : (pixRow src xs nb r).length = nb := by simp [pixRow]

theorem pixRow_getElem? {xs nb r k : Nat} (h : k < nb) :
    (pixRow src xs nb r)[k]? = some (.pix src r (xs + k)) := by
  simp [pixRow, h]

theorem pixStream_length (w : Window) : (pixStream w src).length = w.count := by
  simp [pixStream_eq_rows, List.length_flatMap, Window.count, Nat.mul_comm]

/-- Rows of `nb` actions in a row: the `k`-th action is in row `k / nb`, at place `k % nb` there. -/
theorem pixRows_getElem? {xs nb y n k : Nat} (h : k < nb * n) :
    ((List.range' y n).flatMap (pixRow src xs nb))[k]?
      = some (.pix src (y + k / nb) (xs + k % nb)) := by
  induction n generalizing y k with
  | zero => simp at h
  | succ n ih =>
    have hpos : 0 < nb := Nat.pos_of_mul_pos_right (Nat.zero_lt_of_lt h)
    rw [List.range'_succ, List.flatMap_cons]
    rcases Nat.lt_or_ge k nb with hk | hk
    · rw [List.getElem?_append_left (by simpa using hk), pixRow_getElem? src hk, Nat.div_eq_of_lt hk,
        Nat.mod_eq_of_lt hk, Nat.add_zero]
    · have hrest : k - nb < nb * n := by rw [Nat.mul_succ] at h; omega
      rw [List.getElem?_append_right (by simpa using hk), pixRow_length, ih hrest, Nat.mod_eq_sub_mod hk,
        Nat.div_eq_sub_div hpos hk, Nat.add_assoc, Nat.add_comm 1]

/-- The `k`-th action of a window's stream is row-major from its start corner (R196). -/
theorem pixStream_getElem? {w : Window} {k : Nat} (h : k < w.count) :
    (pixStream w src)[k]? = some (.pix src (w.y0 + k / w.nb) (w.xs + k % w.nb)) :=
  pixRows_getElem? src h

end PixelStream

/-! ## The parts of a sequence -/

section Parts

variable (p : Params)

/-- The power-on phase in its parts, the addressing as one (R191). -/
theorem powerOnPhase_parts (m : LutMode) (w : Window) :
    powerOnPhase p m w = [.setPhase m.ponPhase] ++ InitStep.all.flatMap (initBurst p)
      ++ (setRamArea p w ++ setRamPointer p w) ++ loadLut p m ++ controlPair p.pwrOnCtrl := by
  cases m <;> simp only [powerOnPhase, LutMode.ponPhase, List.append_assoc]

/-- The window pass in its parts, the addressing as one (R205). -/
theorem windowPass_parts (w : Window) (src : Source) :
    windowPass p w src = transfer w src ++ trigger p .part
      ++ [Action.setPhase .settle, .delay p.settleMs, .setPhase .transfer] ++ (setRamArea p w ++ setRamPointer p w)
      ++ transfer w src ++ (if p.winPass2Trigger then trigger p .part else []) := by
  simp only [windowPass, List.append_assoc]

/-- What DRAWPAGED does for page `k` up to its window pass's addressing: the cursor, the preclear and the page
handshake (R206). -/
def pageOpening (k : Nat) : List Action :=
  [Action.setPhase .pageWait, .setCursor (BitVec.ofNat 8 k)]
    ++ (if p.pagePreclear = .white then [Action.preclear] else [])
    ++ [Action.raisePageReq, .awaitPage, .setPhase .transfer]

/-- The part of DRAWPAGED for a page, the addressing as one (R206). -/
theorem pagePass_parts (k : Nat) :
    pagePass p k = pageOpening p k ++ (setRamArea p (pageWindow p k) ++ setRamPointer p (pageWindow p k))
      ++ windowPass p (pageWindow p k) .page := by
  cases hc : p.pagePreclear <;> simp [pagePass, pageOpening, hc]

/-- An action that sets a phase, or sends an item that is of no pixel stream. -/
def Action.isSetup : Action → Bool
  | .setPhase _ | .burstCmd _ _ _ | .dat _ _ _ => true
  | .cmd b => b != 0x24#8
  | _ => false

theorem Action.isQuiet_of_isSetup {a : Action} (h : a.isSetup = true) : a.isQuiet = true := by
  cases a with
  | cmd b => exact h
  | setPhase | burstCmd | dat => rfl
  | _ => cases h

theorem isSetup_of_mem_burst {of : BurstOf} {b : Byte} {ds : List Byte} {a : Action} (h : a ∈ burst of b ds) :
    a.isSetup = true := by
  rw [burst_eq, burstActions, List.mem_cons, List.mem_mapIdx] at h
  rcases h with rfl | ⟨j, hj, rfl⟩ <;> rfl

theorem isSetup_of_mem_addressing {w : Window} {a : Action} (h : a ∈ setRamArea p w ++ setRamPointer p w) :
    a.isSetup = true := by
  revert a
  simp [setRamArea, setRamPointer, dataAct, Action.isSetup]

theorem isSetup_of_mem_controlPair {c : Byte} {a : Action} (h : a ∈ controlPair c) : a.isSetup = true := by
  revert a
  simp [controlPair, dataAct, Action.isSetup]

theorem isSetup_of_mem_powerOnPhase {m : LutMode} {w : Window} {a : Action} (h : a ∈ powerOnPhase p m w) :
    a.isSetup = true := by
  rw [powerOnPhase_parts] at h
  simp only [List.mem_append] at h
  rcases h with (((h | h) | h) | h) | h
  · rw [List.mem_singleton.1 h]; rfl
  · obtain ⟨k, -, hk⟩ := List.mem_flatMap.1 h
    exact isSetup_of_mem_burst hk
  · exact isSetup_of_mem_addressing p (List.mem_append.2 h)
  · exact isSetup_of_mem_burst h
  · exact isSetup_of_mem_controlPair h

theorem isSetup_of_mem_trigger {m : LutMode} {a : Action} (h : a ∈ trigger p m) : a.isSetup = true := by
  revert a
  simp [trigger, controlPair, dataAct, Action.isSetup]

end Parts

/-! ## Item counts (R213) -/

section ItemCounts

variable (p : Params)

theorem itemCount_eq_length {as : List Action} (h : ∀ a ∈ as, a.emits = true) : itemCount as = as.length :=
  List.countP_eq_length.2 h

theorem itemCount_flatMap {α : Type} (xs : List α) (f : α → List Action) :
    itemCount (xs.flatMap f) = (xs.map fun x => itemCount (f x)).sum :=
  List.countP_flatMap

theorem itemCount_burst (of : BurstOf) (b : Byte) (ds : List Byte) :
    itemCount (burst of b ds) = 1 + ds.length := by
  rw [itemCount_eq_length fun a => emits_of_mem_burst, burst, List.length_cons, burstData_length, Nat.add_comm]

theorem itemCount_pixStream (w : Window) (src : Source) : itemCount (pixStream w src) = w.count := by
  have hemits : ∀ a ∈ pixStream w src, a.emits = true := by
    intro a ha
    obtain ⟨r, c, rfl⟩ := isPix_of_mem_pixStream ha
    rfl
  rw [itemCount_eq_length hemits, pixStream_length]

theorem itemCount_addressing (w : Window) : itemCount (setRamArea p w ++ setRamPointer p w) = 13 := rfl

theorem itemCount_controlPair (c : Byte) : itemCount (controlPair c) = 3 := rfl

theorem itemCount_trigger (m : LutMode) : itemCount (trigger p m) = 4 := rfl

theorem itemCount_powerOffPhase : itemCount (powerOffPhase p) = 3 := rfl

/-- The item count of the six INIT ROM bursts (R213). -/
theorem itemCount_initBursts :
    itemCount (InitStep.all.flatMap (initBurst p))
      = (InitStep.all.map fun k => 1 + (p.initEntry k).data.length).sum := by
  simp only [itemCount_flatMap, initBurst, itemCount_burst]

/-- The LUT is 31 bytes (R39). -/
theorem itemCount_loadLut {p : Params} (hl : p.legal = true) (m : LutMode) : itemCount (loadLut p m) = 31 := by
  obtain ⟨hfull, -, hpart, -⟩ := Params.legal_luts hl
  rw [loadLut, itemCount_burst, List.length_tail]
  cases m with
  | full => rw [lutTable, hfull]
  | part => rw [lutTable, hpart]

theorem itemCount_powerOnPhase {p : Params} (hl : p.legal = true) (m : LutMode) (w : Window) :
    itemCount (powerOnPhase p m w)
      = (InitStep.all.map fun k => 1 + (p.initEntry k).data.length).sum + 47 := by
  have hset : ∀ ph, itemCount [.setPhase ph] = 0 := fun _ => rfl
  rw [powerOnPhase_parts, itemCount_append, itemCount_append, itemCount_append, itemCount_append, hset,
    itemCount_initBursts, itemCount_addressing, itemCount_loadLut hl, itemCount_controlPair]
  omega

theorem itemCount_transfer (w : Window) (src : Source) : itemCount (transfer w src) = 1 + w.count := by
  have hcmd : itemCount [.setPhase .transfer, .cmd 0x24#8] = 1 := rfl
  rw [transfer, itemCount_append, hcmd, itemCount_pixStream]

theorem itemCount_windowPass (w : Window) (src : Source) :
    itemCount (windowPass p w src) = 19 + 2 * w.count + (if p.winPass2Trigger then 4 else 0) := by
  have hsettle : itemCount [.setPhase .settle, .delay p.settleMs, .setPhase .transfer] = 0 := rfl
  have hlast : itemCount (if p.winPass2Trigger then trigger p .part else [])
      = if p.winPass2Trigger then 4 else 0 := by
    split <;> rfl
  rw [windowPass_parts, itemCount_append, itemCount_append, itemCount_append, itemCount_append, itemCount_append,
    itemCount_transfer, itemCount_trigger, hsettle, itemCount_addressing, hlast]
  omega

theorem itemCount_pagePass {p : Params} (hl : p.legal = true) (k : Nat) :
    itemCount (pagePass p k) = 32 + 2 * p.pageBytes + (if p.winPass2Trigger then 4 else 0) := by
  have hopen : itemCount (pageOpening p k) = 0 := by
    unfold pageOpening
    split <;> rfl
  rw [pagePass_parts, itemCount_append, itemCount_append, hopen, itemCount_addressing, itemCount_windowPass,
    count_pageWindow hl]
  omega

end ItemCounts

/-! ## Pixel streams (R209) -/

section Streams

/-- A part of a sequence whose pixel actions are streams of `ns` actions, each at once after a `Cmd(0x24)`,
whatever follows that does not go on with pixel actions. -/
structure Streams (as : List Action) (ns : List Nat) : Prop where
  first : as.takeWhile Action.isPix = []
  counts : ∀ rest, rest.takeWhile Action.isPix = [] → streamCounts (as ++ rest) = ns ++ streamCounts rest
  total : as.countP Action.isPix = ns.sum

variable {as bs : List Action} {ns ms : List Nat}

/-- A whole sequence has the stream counts of its streams. -/
theorem Streams.streamCounts_eq (h : Streams as ns) : streamCounts as = ns := by
  simpa [streamCounts] using h.counts [] rfl

theorem takeWhile_isPix_append (ha : as.takeWhile Action.isPix = []) (hb : bs.takeWhile Action.isPix = []) :
    (as ++ bs).takeWhile Action.isPix = [] := by
  cases as with
  | nil => exact hb
  | cons a as =>
    cases hp : a.isPix with
    | false => simp [hp]
    | true => simp [hp] at ha

theorem Streams.append (ha : Streams as ns) (hb : Streams bs ms) : Streams (as ++ bs) (ns ++ ms) where
  first := takeWhile_isPix_append ha.first hb.first
  counts rest hr := by
    rw [List.append_assoc, ha.counts _ (takeWhile_isPix_append hb.first hr), hb.counts rest hr, List.append_assoc]
  total := by rw [List.countP_append, ha.total, hb.total, List.sum_append]

/-- A quiet part streams nothing. -/
theorem Streams.of_quiet (h : ∀ a ∈ as, a.isQuiet = true) : Streams as [] where
  first := by
    cases as with
    | nil => rfl
    | cons a as =>
      have hq := h a List.mem_cons_self
      cases a with
      | pix => simp [Action.isQuiet] at hq
      | _ => rfl
  counts rest _ := streamCounts_quiet_append rest h
  total := countP_isPix_of_quiet h

theorem Streams.flatMap {α : Type} {f : α → List Action} {g : α → List Nat} (h : ∀ x, Streams (f x) (g x))
    (xs : List α) : Streams (xs.flatMap f) (xs.flatMap g) := by
  induction xs with
  | nil => exact .of_quiet nofun
  | cons x xs ih => exact (h x).append ih

/-- Pixel actions open no stream of their own. -/
theorem streamCounts_pix_append (h : ∀ a ∈ as, a.isPix = true) (rest : List Action) :
    streamCounts (as ++ rest) = streamCounts rest := by
  induction as with
  | nil => rfl
  | cons a as ih =>
    have hrest := ih fun b hb => h b (List.mem_cons_of_mem a hb)
    have hp := h a List.mem_cons_self
    cases a with
    | pix => exact hrest
    | _ => cases hp

variable (p : Params)

/-- A transfer streams its window's bytes (R196). -/
theorem streams_transfer (w : Window) (src : Source) : Streams (transfer w src) [w.count] := by
  have hpix : ∀ a ∈ pixStream w src, a.isPix = true := by
    intro a ha
    obtain ⟨r, c, rfl⟩ := isPix_of_mem_pixStream ha
    rfl
  refine ⟨rfl, fun rest hr => ?_, ?_⟩
  · change ((pixStream w src ++ rest).takeWhile Action.isPix).length :: streamCounts (pixStream w src ++ rest) = _
    rw [List.takeWhile_append_of_pos hpix, hr, List.append_nil, pixStream_length, streamCounts_pix_append hpix]
    rfl
  · change (pixStream w src).countP Action.isPix = _
    rw [List.countP_eq_length.2 hpix, pixStream_length, List.sum_singleton]

/-- A part that sets phases and sends items of no stream streams nothing. -/
theorem Streams.of_isSetup (h : ∀ a ∈ as, a.isSetup = true) : Streams as [] :=
  .of_quiet fun a ha => Action.isQuiet_of_isSetup (h a ha)

theorem streams_addressing (w : Window) : Streams (setRamArea p w ++ setRamPointer p w) [] :=
  .of_isSetup fun _ => isSetup_of_mem_addressing p

theorem streams_powerOnPhase (m : LutMode) (w : Window) : Streams (powerOnPhase p m w) [] :=
  .of_isSetup fun _ => isSetup_of_mem_powerOnPhase p

theorem streams_trigger (m : LutMode) : Streams (trigger p m) [] :=
  .of_isSetup fun _ => isSetup_of_mem_trigger p

theorem streams_powerOffPhase : Streams (powerOffPhase p) [] :=
  .of_quiet (by simp [powerOffPhase, controlPair, dataAct, Action.isQuiet])

/-- A window pass streams its window twice (R205). -/
theorem streams_windowPass (w : Window) (src : Source) : Streams (windowPass p w src) [w.count, w.count] := by
  have hsettle : Streams [.setPhase .settle, .delay p.settleMs, .setPhase .transfer] [] :=
    .of_quiet (by simp [Action.isQuiet])
  have hlast : Streams (if p.winPass2Trigger then trigger p .part else []) [] := by
    split
    · exact streams_trigger p .part
    · exact .of_quiet nofun
  rw [windowPass_parts]
  exact (((((streams_transfer w src).append (streams_trigger p .part)).append hsettle).append
    (streams_addressing p w)).append (streams_transfer w src)).append hlast

theorem streams_pagePass (k : Nat) :
    Streams (pagePass p k) [(pageWindow p k).count, (pageWindow p k).count] := by
  have hopen : Streams (pageOpening p k) [] := by
    refine .of_quiet ?_
    unfold pageOpening
    split <;> simp [Action.isQuiet]
  rw [pagePass_parts]
  exact (hopen.append (streams_addressing p _)).append (streams_windowPass p _ .page)

theorem streams_fullPassSeq (m : LutMode) (src : Source) :
    Streams (fullPassSeq p m src) [(fullWindow p).count] :=
  (((streams_powerOnPhase p m _).append (streams_transfer _ src)).append (streams_trigger p m)).append
    (streams_powerOffPhase p)

theorem streams_windowSeq (w : Window) : Streams (windowSeq p w) [w.count, w.count] :=
  ((streams_powerOnPhase p .part w).append (streams_windowPass p w .fb)).append (streams_powerOffPhase p)

theorem streams_pagedSeq : Streams (pagedSeq p)
    ((List.range p.pageCount).flatMap fun k => [(pageWindow p k).count, (pageWindow p k).count]) := by
  have hend : Streams [.setCursor 0xFF#8] [] := .of_quiet (by simp [Action.isQuiet])
  simpa [pagedSeq] using (((streams_powerOnPhase p .part _).append
    (Streams.flatMap (streams_pagePass p) _)).append hend).append (streams_powerOffPhase p)

theorem streams_initSeq : Streams (initSeq p) [] := by
  refine .of_quiet ?_
  unfold initSeq
  split <;> simp [Action.isQuiet]

/-- Every sequence's pixel actions are streams behind its 0x24s (R23, R209). -/
theorem exists_streams_expand (l : Latched) : ∃ ns, Streams (expand p l) ns := by
  unfold expand
  split_ifs
  · exact ⟨_, streams_initSeq p⟩
  · exact ⟨_, streams_fullPassSeq p _ _⟩
  · exact ⟨_, streams_fullPassSeq p _ _⟩
  · exact ⟨_, streams_windowSeq p _⟩
  · exact ⟨_, streams_pagedSeq p⟩
  · exact ⟨_, streams_fullPassSeq p _ _⟩
  · exact ⟨_, .of_quiet nofun⟩

/-- DRAWPAGED streams each page twice (R206). -/
theorem streamCounts_pagedSeq {p : Params} (hl : p.legal = true) :
    streamCounts (pagedSeq p) = List.replicate (2 * p.pageCount) p.pageBytes := by
  rw [(streams_pagedSeq p).streamCounts_eq, List.eq_replicate_iff]
  simp [count_pageWindow hl, List.length_flatMap, Nat.mul_comm]

end Streams

end Sys2Proof.Machine

open Sys2Proof Sys2Proof.Machine

/-- Settles O45: the stream is rows of `nb` actions, and the panel counts its rows down from the top. -/
theorem pixelStreamIsRowMajor : Obligations.PixelStreamIsRowMajor := by
  intro p w src _
  refine ⟨pixStream_length src w, fun k hk => ⟨_, _, pixStream_getElem? src hk, rfl, rfl, ?_⟩⟩
  rw [panelPlace, Window.ys, Nat.sub_sub (p.height - 1)]

/-- Settles O46, by the item counts of the parts of each sequence. -/
theorem sequencesSendTheirItemCounts : Obligations.SequencesSendTheirItemCounts := by
  intro p m src w hl _ ni extra
  have hpages : itemCount ((List.range p.pageCount).flatMap (pagePass p))
      = p.pageCount * (32 + 2 * p.pageBytes + extra) := by
    simp [itemCount_flatMap, itemCount_pagePass hl, extra]
  have hend : itemCount [.setCursor 0xFF#8] = 0 := rfl
  refine ⟨?_, ?_, ?_, itemCount_initSeq p⟩
  · simp only [fullPassSeq, itemCount_append, itemCount_powerOnPhase hl, itemCount_transfer, itemCount_trigger,
      itemCount_powerOffPhase, count_fullWindow hl, ni]
    omega
  · simp only [windowSeq, itemCount_append, itemCount_powerOnPhase hl, itemCount_windowPass, itemCount_powerOffPhase,
      ni, extra]
    omega
  · simp only [pagedSeq, itemCount_append, itemCount_powerOnPhase hl, hpages, hend, itemCount_powerOffPhase, ni]
    omega

/-- Settles O47: every sequence is made of quiet parts and of transfers, each a stream of its window. -/
theorem everyWriteRamStreamsItsWindow : Obligations.EveryWriteRamStreamsItsWindow := by
  intro p m src w hl _
  refine ⟨?_, (streams_windowSeq p w).streamCounts_eq, streamCounts_pagedSeq hl, fun l => ?_⟩
  · rw [(streams_fullPassSeq p m src).streamCounts_eq, count_fullWindow hl]
  · obtain ⟨ns, hns⟩ := exists_streams_expand p l
    rw [hns.total, hns.streamCounts_eq]

end

section
/-! PROOFS. The start and the end of each operation, and a whole ERASE (44_sequencer.md). -/

namespace Sys2Proof.Machine

/-! ## `Done` and `WaitBusy` stand at the end only (R200, R212) -/

section Closing

variable (p : Params)

/-- An action that sends an item or sets a phase: what a full-window pass holds before its closing wait. -/
def Action.isPass : Action → Bool
  | .setPhase _ => true
  | a => a.emits

/-- An action of the end of a sequence (R200). -/
def Action.isClosing : Action → Bool
  | .waitBusy | .done => true
  | _ => false

theorem Action.isPass_of_isSetup {a : Action} (h : a.isSetup = true) : a.isPass = true := by
  cases a with
  | setPhase | cmd | burstCmd | dat => rfl
  | _ => cases h

theorem isPass_of_mem_transfer {w : Window} {src : Source} {a : Action} (h : a ∈ transfer w src) :
    a.isPass = true := by
  rcases List.mem_append.1 h with h | h
  · simp only [List.mem_cons, List.not_mem_nil, or_false] at h
    rcases h with rfl | rfl <;> rfl
  · obtain ⟨r, c, rfl⟩ := isPix_of_mem_pixStream h
    rfl

/-- What a full-window pass does before its power-off phase (R202, R203, R208). -/
def fullPassHead (m : LutMode) (src : Source) : List Action :=
  powerOnPhase p m (fullWindow p) ++ transfer (fullWindow p) src ++ trigger p m

theorem fullPassSeq_parts (m : LutMode) (src : Source) :
    fullPassSeq p m src = fullPassHead p m src ++ powerOffPhase p := rfl

theorem isPass_of_mem_fullPassHead {m : LutMode} {src : Source} {a : Action} (h : a ∈ fullPassHead p m src) :
    a.isPass = true := by
  simp only [fullPassHead, List.mem_append] at h
  rcases h with (h | h) | h
  · exact Action.isPass_of_isSetup (isSetup_of_mem_powerOnPhase p h)
  · exact isPass_of_mem_transfer h
  · exact Action.isPass_of_isSetup (isSetup_of_mem_trigger p h)

/-- No action of a list ends an operation or waits for its end. -/
def NeverCloses (as : List Action) : Prop := ∀ a ∈ as, a.isClosing = false

theorem NeverCloses.of_isPass {as : List Action} (h : ∀ a ∈ as, a.isPass = true) : NeverCloses as := by
  intro a ha
  have hp := h a ha
  cases a with
  | waitBusy | done => simp [Action.isPass, Action.emits] at hp
  | _ => rfl

theorem NeverCloses.of_isSetup {as : List Action} (h : ∀ a ∈ as, a.isSetup = true) : NeverCloses as :=
  .of_isPass fun a ha => Action.isPass_of_isSetup (h a ha)

theorem NeverCloses.append {as bs : List Action} (ha : NeverCloses as) (hb : NeverCloses bs) :
    NeverCloses (as ++ bs) :=
  List.forall_mem_append.2 ⟨ha, hb⟩

/-- Neither `Done` nor `WaitBusy` stands in such a list. -/
theorem NeverCloses.not_mem {as : List Action} (h : NeverCloses as) :
    Action.done ∉ as ∧ Action.waitBusy ∉ as :=
  ⟨fun hd => by simpa [Action.isClosing] using h _ hd, fun hw => by simpa [Action.isClosing] using h _ hw⟩

theorem neverCloses_addressing (w : Window) : NeverCloses (setRamArea p w ++ setRamPointer p w) :=
  .of_isSetup fun _ => isSetup_of_mem_addressing p

theorem neverCloses_windowPass (w : Window) (src : Source) : NeverCloses (windowPass p w src) := by
  have htransfer : NeverCloses (transfer w src) := .of_isPass fun _ => isPass_of_mem_transfer
  have htrigger : NeverCloses (trigger p .part) := .of_isSetup fun _ => isSetup_of_mem_trigger p
  have hsettle : NeverCloses [.setPhase .settle, .delay p.settleMs, .setPhase .transfer] := by
    simp [NeverCloses, Action.isClosing]
  have hlast : NeverCloses (if p.winPass2Trigger then trigger p .part else []) := by
    split
    · exact htrigger
    · simp [NeverCloses]
  rw [windowPass_parts]
  exact ((((htransfer.append htrigger).append hsettle).append (neverCloses_addressing p w)).append
    htransfer).append hlast

theorem neverCloses_pagePass (k : Nat) : NeverCloses (pagePass p k) := by
  have hopen : NeverCloses (pageOpening p k) := by
    unfold pageOpening
    split <;> simp [NeverCloses, Action.isClosing]
  rw [pagePass_parts]
  exact (hopen.append (neverCloses_addressing p _)).append (neverCloses_windowPass p _ _)

/-- Every sequence but INIT's ends in the power-off phase, and closes nothing before it (R200, R212). -/
theorem exists_head_powerOffPhase {l : Latched} (h : l.lOp ∈ [0x4#4, 0x5#4, 0x6#4, 0x7#4, 0x8#4]) :
    ∃ head, expand p l = head ++ powerOffPhase p ∧ NeverCloses head := by
  have hpower : ∀ m w, NeverCloses (powerOnPhase p m w) := fun m w =>
    .of_isSetup fun _ => isSetup_of_mem_powerOnPhase p
  have hfull : ∀ m src, NeverCloses (fullPassHead p m src) := fun m src =>
    .of_isPass fun _ => isPass_of_mem_fullPassHead p
  unfold expand
  split_ifs with h1 h4 h5 h6 h7 h8
  · simp [h1] at h
  · exact ⟨_, fullPassSeq_parts p _ _, hfull _ _⟩
  · exact ⟨_, fullPassSeq_parts p _ _, hfull _ _⟩
  · exact ⟨_, rfl, (hpower _ _).append (neverCloses_windowPass p _ _)⟩
  · have hpages : NeverCloses ((List.range p.pageCount).flatMap (pagePass p)) :=
      List.forall_mem_flatMap.2 fun k _ => neverCloses_pagePass p k
    have hend : NeverCloses [.setCursor 0xFF#8] := by simp [NeverCloses, Action.isClosing]
    exact ⟨_, rfl, ((hpower _ _).append hpages).append hend⟩
  · exact ⟨_, fullPassSeq_parts p _ _, hfull _ _⟩
  · simp [h4, h5, h6, h7, h8] at h

end Closing

/-! ## The sequences written out (R202, R203, R206, R208) -/

theorem fullPassSeq_eq (p : Params) (m : LutMode) (src : Source) :
    fullPassSeq p m src = powerOnActions p m.isPart (fullWindow p) ++ transferActions (fullWindow p) src
      ++ triggerActions p m.isPart ++ powerOffActions p := by
  rw [fullPassSeq, powerOnPhase_eq, transfer_eq, trigger_eq, powerOffPhase_eq]

theorem pagePass_eq (p : Params) (k : Nat) :
    pagePass p k = pageOpening p k ++ addressingActions p (pageWindow p k)
      ++ windowPassActions p (pageWindow p k) .page := by
  rw [pagePass_parts, addressing_eq, windowPass_eq]

theorem pagedSeq_eq (p : Params) :
    pagedSeq p = powerOnActions p true (fullWindow p)
      ++ (List.range p.pageCount).flatMap (fun k => pageOpening p k ++ addressingActions p (pageWindow p k)
        ++ windowPassActions p (pageWindow p k) .page)
      ++ [.setCursor 0xFF#8] ++ powerOffActions p := by
  rw [pagedSeq, powerOnPhase_eq, powerOffPhase_eq, funext (pagePass_eq p), LutMode.isPart_part]

/-- An operation accepted where nothing runs stands before the first action of its sequence (R120, R121). -/
theorem accept_startOperation_of_idle {s : State} (h : s.seqBusy = false) (op : BitVec 4) (p : Bool)
    (m : LutMode) :
    s.accept .idleOnly (fun t => t.startOperation op p m) = { s with
      lastErr := .accepted, partialLut := m.isPart, seqBusy := true
      acts := expand s.params (s.args.latch op p), pc := 0, srcOld := [], latched := s.args.latch op p } := by
  obtain ⟨hidle, -, -⟩ := State.rejection_idle h
  exact State.accept_of_none hidle _

/-- ERASE with nothing running (R208). -/
theorem exec_erase_of_idle {s : State} (h : s.seqBusy = false) (p : Bool) :
    exec (.erase p) s = .next { s with
      lastErr := .accepted, partialLut := p, seqBusy := true
      acts := fullPassSeq s.params (.ofP p) .zero, pc := 0, srcOld := [], latched := s.args.latch 8#4 p } := by
  have hstart := accept_startOperation_of_idle h 8#4 p (.ofP p)
  rw [LutMode.isPart_ofP] at hstart
  exact congrArg Host.Outcome.next hstart

/-! ## A whole ERASE (R208, R290) -/

section Erase

/-- The items of a burst (R144). -/
def burstItems (c : Byte) (ds : List Byte) : List BusItem :=
  ⟨false, c, true, ds.isEmpty⟩ :: ds.mapIdx (fun j v => ⟨true, v, false, decide (j + 1 = ds.length)⟩)

/-- A single transaction of a data byte (R143). -/
def dataItem (v : Byte) : BusItem := ⟨true, v, true, true⟩

/-- A single transaction of a command byte (R142). -/
def cmdItem (v : Byte) : BusItem := ⟨false, v, true, true⟩

/-- A filter that keeps every image of an indexed map is an indexed map itself. -/
theorem filterMap_mapIdx_eq {α β γ : Type} {f : Nat → α → β} {g : β → Option γ} {h : Nat → α → γ}
    (hg : ∀ j v, g (f j v) = some (h j v)) (l : List α) : (l.mapIdx f).filterMap g = l.mapIdx h := by
  induction l generalizing f h with
  | nil => rfl
  | cons v l ih =>
    rw [List.mapIdx_cons, List.filterMap_cons_some (hg 0 v), List.mapIdx_cons, ih fun j => hg (j + 1)]

variable (s : State) {p : Params}

theorem itemsOf_burst (of : BurstOf) (b : Byte) (ds : List Byte) :
    (burst of b ds).filterMap s.itemOf = burstItems b ds := by
  have hempty : decide (ds.length = 0) = ds.isEmpty := by cases ds <;> rfl
  rw [burst_eq, burstActions, hempty]
  exact congrArg (List.cons _) (filterMap_mapIdx_eq (g := s.itemOf) (fun _ _ => rfl) ds)

theorem itemsOf_initBursts :
    (InitStep.all.flatMap (initBurst p)).filterMap s.itemOf
      = [p.panelConfig, p.softStart, p.vcom, p.dummyLine, p.gateTime, p.entryMode].flatMap
          (fun e => burstItems e.cmd e.data) := by
  simp only [InitStep.all, List.flatMap_cons, List.flatMap_nil, List.filterMap_append, List.filterMap_nil, initBurst,
    itemsOf_burst, Params.initEntry]

/-- Byte 0 of a legal LUT is the command 0x32 (R180, R184). -/
theorem itemsOf_loadLut (hl : p.legal = true) (m : LutMode) :
    (loadLut p m).filterMap s.itemOf = burstItems 0x32#8 (lutTable p m).tail := by
  obtain ⟨-, hfull, -, hpart⟩ := Params.legal_luts hl
  have hhead : (lutTable p m).headD 0#8 = 0x32#8 := by
    rw [List.headD_eq_head?_getD]
    cases m with
    | full => rw [lutTable, hfull]; rfl
    | part => rw [lutTable, hpart]; rfl
  rw [loadLut, itemsOf_burst, hhead]

/-- The items of the full window and pointer, low bytes first (R162, R168, R169). -/
def fullAddressingItems (p : Params) : List BusItem :=
  let top := p.height - 1
  [cmdItem 0x44#8, dataItem 0x00#8, dataItem (BitVec.ofNat 8 (p.width / 8 - 1)),
    cmdItem 0x45#8, dataItem (BitVec.ofNat 8 top), dataItem (BitVec.ofNat 8 (top / 256)), dataItem 0x00#8,
    dataItem 0x00#8,
    cmdItem 0x4E#8, dataItem 0x00#8, cmdItem 0x4F#8, dataItem (BitVec.ofNat 8 top),
    dataItem (BitVec.ofNat 8 (top / 256))]

theorem itemsOf_fullAddressing (hl : p.legal = true) :
    (setRamArea p (fullWindow p) ++ setRamPointer p (fullWindow p)).filterMap s.itemOf = fullAddressingItems p := by
  obtain ⟨hmod, hw, -⟩ := Params.legal_geometry hl
  have hxs : (fullWindow p).xs = 0 := Nat.zero_div 8
  have hxe : (fullWindow p).xe = p.width / 8 - 1 := by simp only [Window.xe, fullWindow]; omega
  have hys : (fullWindow p).ys p = p.height - 1 := rfl
  have hye : (fullWindow p).ye p = 0 := Nat.sub_self _
  rw [setRamArea, setRamPointer, hxs, hxe, hys, hye]
  rfl

theorem itemsOf_powerOnPhase (hl : p.legal = true) (m : LutMode) :
    (powerOnPhase p m (fullWindow p)).filterMap s.itemOf
      = [p.panelConfig, p.softStart, p.vcom, p.dummyLine, p.gateTime, p.entryMode].flatMap
          (fun e => burstItems e.cmd e.data)
        ++ fullAddressingItems p ++ burstItems 0x32#8 (lutTable p m).tail
        ++ [cmdItem 0x22#8, dataItem p.pwrOnCtrl, cmdItem 0x20#8] := by
  rw [powerOnPhase_parts, List.filterMap_append, List.filterMap_append, List.filterMap_append, List.filterMap_append,
    itemsOf_initBursts, itemsOf_fullAddressing s hl, itemsOf_loadLut s hl]
  rfl

/-- A stream of zeros sends one 0xFF for each byte of its window (R208, R231). -/
theorem itemsOf_zeroStream (w : Window) :
    (pixStream w .zero).filterMap s.itemOf = List.replicate w.count (dataItem 0xFF#8) := by
  have hitem : ∀ a ∈ pixStream w .zero, s.itemOf a = some (dataItem 0xFF#8) := by
    intro a ha
    obtain ⟨r, c, rfl⟩ := isPix_of_mem_pixStream ha
    have hbyte : s.pixelByte .zero r c = 0xFF#8 := (by decide : wireT 0x00#8 = 0xFF#8)
    rw [State.itemOf, hbyte]
    rfl
  rw [List.filterMap_congr hitem, ← pixStream_length .zero w]
  simp

theorem itemsOf_zeroTransfer (w : Window) :
    (transfer w .zero).filterMap s.itemOf = cmdItem 0x24#8 :: List.replicate w.count (dataItem 0xFF#8) := by
  rw [transfer, List.filterMap_append, itemsOf_zeroStream]
  rfl

/-- The power-off phase before its `Done` (R200). -/
def powerOffHead (p : Params) : List Action := [.setPhase .poff] ++ controlPair p.pwrOffCtrl ++ [.waitBusy]

theorem powerOffPhase_parts (p : Params) : powerOffPhase p = powerOffHead p ++ [.done] := rfl

/-- Every action of a full-window pass but `Done` takes one step where nothing hinders it. -/
theorem passes_fullPass {m : LutMode} {src : Source} {a : Action} (h : a ∈ fullPassHead p m src ++ powerOffHead p) :
    a.emits = true ∨ a = .waitBusy ∨ ∃ ph, a = .setPhase ph := by
  rcases List.mem_append.1 h with h | h
  · have hp := isPass_of_mem_fullPassHead p h
    cases a with
    | setPhase ph => exact .inr (.inr ⟨ph, rfl⟩)
    | _ => exact .inl hp
  · simp only [powerOffHead, controlPair, dataAct, List.mem_append, List.mem_cons, List.not_mem_nil, or_false] at h
    rcases h with (rfl | rfl | rfl | rfl) | rfl
    · exact .inr (.inr ⟨_, rfl⟩)
    · exact .inl rfl
    · exact .inl rfl
    · exact .inl rfl
    · exact .inr (.inl rfl)

/-- Where nothing hinders it, a full-window pass runs from its first action to `Done`: its items are sent, and
the host's side and the framebuffer are as they were (R202, R203, R208). -/
theorem Unhindered.run_fullPass {u : State} (h : Unhindered u) {m : LutMode} {src : Source}
    (ha : u.acts = fullPassSeq u.params m src) (hpc : u.pc = 0) :
    ∃ n t, runSteps n u = .next t ∧ t.seqBusy = false ∧ t.fb = u.fb ∧ t.lastErr = u.lastErr ∧
      t.partialLut = u.partialLut ∧
      t.trace = u.trace ++ (fullPassHead u.params m src ++ powerOffHead u.params).filterMap u.itemOf := by
  have hdrop : u.acts.drop u.pc = fullPassHead u.params m src ++ powerOffHead u.params ++ [.done] := by
    rw [hpc, List.drop_zero, ha, fullPassSeq_parts, powerOffPhase_parts, List.append_assoc]
  obtain ⟨rq, hrun⟩ := h.run _ hdrop fun _ => passes_fullPass
  exact ⟨_, _, hrun, rfl, rfl, rfl, rfl, rfl⟩

/-- The items of a whole ERASE: the power-on phase, 0x24 and one 0xFF for each byte of the panel, the trigger and
the power-off pair (R191, R196, R198, R200). -/
theorem itemsOf_erase (hl : p.legal = true) (m : LutMode) :
    (fullPassHead p m .zero ++ powerOffHead p).filterMap s.itemOf
      = [p.panelConfig, p.softStart, p.vcom, p.dummyLine, p.gateTime, p.entryMode].flatMap
          (fun e => burstItems e.cmd e.data)
        ++ fullAddressingItems p ++ burstItems 0x32#8 (lutTable p m).tail
        ++ [cmdItem 0x22#8, dataItem p.pwrOnCtrl, cmdItem 0x20#8]
        ++ cmdItem 0x24#8 :: List.replicate (p.width / 8 * p.height) (dataItem 0xFF#8)
        ++ [cmdItem 0x22#8, dataItem (updCtrl p m), cmdItem 0x20#8, cmdItem 0xFF#8,
            cmdItem 0x22#8, dataItem p.pwrOffCtrl, cmdItem 0x20#8] := by
  have hcount : (fullWindow p).count = p.width / 8 * p.height := count_fullWindow hl
  rw [fullPassHead, List.append_assoc, List.filterMap_append, List.filterMap_append, itemsOf_powerOnPhase s hl,
    itemsOf_zeroTransfer, hcount]
  rfl

/-- The CMD words of ERASE (R91, R92). -/
theorem decode_eraseWord (part : Bool) :
    decode (.cmdWord (if part then 0x00000108#32 else 0x00000008#32)) = .ok (.erase part) := by
  cases part <;> rfl

/-- An ERASE accepted where nothing runs and nothing else is scheduled (R120, R208). -/
def State.erasing (s : State) (part : Bool) : State :=
  { s with
    turns := [], lastErr := .accepted, partialLut := part, seqBusy := true
    acts := fullPassSeq s.params (.ofP part) .zero, pc := 0, srcOld := [], latched := s.args.latch 8#4 part }

/-- The host's write of ERASE to CMD (R90, R208). -/
theorem step_eraseWrite {s : State} (hl : s.params.legal = true) (hr : s.pins.rstN = true)
    (hb : s.seqBusy = false) (part : Bool) :
    step { s with turns := [.host ⟨true, 0#17, if part then 0x00000108#32 else 0x00000008#32⟩] }
      = .next (s.erasing part) := by
  refine (stepRunsTheFetchedInstruction.2 _ 0#17 _ [] (.erase part) (by exact hl) (by exact hr) rfl (by decide)
    (decode_eraseWord part)).trans ?_
  exact exec_erase_of_idle (s := { s with turns := [] }) hb part

/-- Nothing hinders an ERASE accepted in a cooperative state (R290). -/
theorem unhindered_erasing {s : State} (hco : Cooperative s) (hinv : Inv s) (hb : s.seqBusy = false)
    (part : Bool) : Unhindered (s.erasing part) := by
  obtain ⟨-, hcourse, hpending⟩ := inv_iff.1 hinv
  have hcalm := hpending.calm_of_idle hcourse hb
  exact ⟨⟨hco.legal, hco.rstN, hco.txReady, hco.sAck, hco.busyS, rfl⟩, rfl, hcalm.txq, hcalm.gateWait, rfl⟩

end Erase

end Sys2Proof.Machine

open Sys2Proof Sys2Proof.Machine

/-- Settles O49: what stands before the power-off phase of a sequence closes nothing. -/
theorem powerOffIsAlwaysReached : Obligations.PowerOffIsAlwaysReached := by
  intro p l hop
  obtain ⟨head, hseq, hhead⟩ := exists_head_powerOffPhase p hop
  exact ⟨head, hseq, hhead.not_mem⟩

/-- Settles O12: acceptance where nothing runs, with each sequence written out. -/
theorem panelOperationsStartTheirSequence : Obligations.PanelOperationsStartTheirSequence := by
  intro s p h P full started band page
  have hstart := fun op q m => congrArg (Host.Outcome.next (φ := Fault) (ρ := Refusal))
    (accept_startOperation_of_idle h op q m)
  have hpart : (LutMode.ofP p).isPart = p := LutMode.isPart_ofP p
  refine ⟨?_, ?_, ?_, ?_⟩
  · refine (hstart 4#4 false .full).trans ?_
    rw [show expand P (s.args.latch 4#4 false) = _ from fullPassSeq_eq P .full .fb]
    rfl
  · refine (hstart 5#4 p (.ofP p)).trans ?_
    rw [show expand P (s.args.latch 5#4 p) = _ from fullPassSeq_eq P (.ofP p) .bmp, hpart]
    rfl
  · refine (hstart 7#4 false .part).trans ?_
    rw [show expand P (s.args.latch 7#4 false) = _ from pagedSeq_eq P]
    rfl
  · rw [exec_erase_of_idle h, fullPassSeq_eq, hpart]
    rfl

/-- Settles O60: the host's write starts the sequence in a state that nothing hinders, and the run of the
sequence sends its items and finishes. -/
theorem eraseWhitensThePanelAndEnds : Obligations.EraseWhitensThePanelAndEnds := by
  intro s p hco hinv hidle D C bursts P lut top
  have hl : P.legal = true := hco.legal
  have hlut : lutTable P (.ofP p) = lut := by cases p <;> rfl
  have hctrl : updCtrl P (.ofP p) = if p then P.updCtrlPart else P.updCtrlFull := by cases p <;> rfl
  obtain ⟨n, t, hrun, hdone, hfb, herr, hpartial, htrace⟩ :=
    (unhindered_erasing hco hinv hidle p).run_fullPass rfl rfl
  refine ⟨n + 1, t, (runSteps_of_next (step_eraseWrite hl hco.rstN hidle p) n).trans hrun, hdone, hfb, herr,
    hpartial, ?_⟩
  have hitems := itemsOf_erase (s.erasing p) hl (.ofP p)
  rw [hlut, hctrl] at hitems
  refine htrace.trans ((congrArg (s.trace ++ ·) hitems).trans ?_)
  simp only [List.append_assoc]
  rfl

end

section
/-! PROOFS. The transform, and the pixels a streamed byte carries (45_transform.md). -/

namespace Sys2Proof.Machine

/-! ## The two halves of T (R230, R231, R233) -/

/-- Lane `i` of T is input lane `7 - i` inverted (R231). -/
theorem wireT_getLsbD (b : Byte) {i : Nat} (h : i < 8) : (wireT b).getLsbD i = !b.getLsbD (7 - i) := by
  simp only [wireT, BitVec.getLsbD_not, h, decide_true, Bool.true_and, rev8_getLsbD]

/-- The reversal and the inversion commute (R231). -/
theorem rev8_not (b : Byte) : rev8 (~~~ b) = ~~~ rev8 b := by
  refine BitVec.eq_of_getLsbD_eq fun i h => ?_
  simp only [rev8_getLsbD _ i h, BitVec.getLsbD_not, h, show 7 - i < 8 by omega]

/-- The reversal is an involution (R233). -/
@[simp] theorem rev8_rev8 (b : Byte) : rev8 (rev8 b) = b := by
  refine BitVec.eq_of_getLsbD_eq fun i h => ?_
  rw [rev8_getLsbD _ i h, rev8_getLsbD _ _ (by omega), show 7 - (7 - i) = i by omega]

theorem rev8_not_rev8_not (b : Byte) : rev8 (~~~ rev8 (~~~ b)) = b := by
  rw [rev8_not, rev8_rev8, BitVec.not_not]

theorem wireT_eq_rev8_not (b : Byte) : wireT b = rev8 (~~~ b) := (rev8_not b).symm

theorem wireT_involutive : Function.Involutive wireT := fun b => by
  rw [wireT_eq_rev8_not (wireT b), wireT, BitVec.not_not, rev8_rev8]

/-- A fixed point of T has its high lanes the inverse of its low ones, mirrored (R233): the condition on
lane `7 - i` is that on lane `i`. -/
theorem wireT_eq_self_iff (b : Byte) : wireT b = b ↔ ∀ i < 4, b.getLsbD (7 - i) = !b.getLsbD i := by
  constructor
  · intro h i hi
    have hlane := wireT_getLsbD b (i := i) (by omega)
    rw [h] at hlane
    rw [hlane, Bool.not_not]
  · intro h
    refine BitVec.eq_of_getLsbD_eq fun i hi => ?_
    rw [wireT_getLsbD b hi]
    by_cases hlow : i < 4
    · rw [h i hlow, Bool.not_not]
    · have hmirror := h (7 - i) (by omega)
      rw [show 7 - (7 - i) = i by omega] at hmirror
      exact hmirror.symm

/-! ## The place of a lane's pixel (R62, R243) -/

/-- The eight pixels of byte column `c` stand in one framebuffer byte (R62). -/
theorem fbIndex_lane (p : Params) (r c : Nat) {i : Nat} (hi : i < 8) :
    fbIndex p (8 * c + i) r = r * p.wb + c := by
  rw [fbIndex, show (8 * c + i) / 8 = c by omega, Nat.add_comm]

/-- The leftmost of the eight pixels is bit 7 (R62). -/
theorem fbBit_lane (c : Nat) {i : Nat} (hi : i < 8) : fbBit (8 * c + i) = 7 - i := by
  rw [fbBit, show (8 * c + i) % 8 = i by omega]

/-- A byte of a row of the current page is rebased by the page's first row (R243). -/
theorem State.rebase_of_page_row {s : State} {r c : Nat} (hp : s.paging = true) (hc : c < s.params.wb)
    (hlo : s.page * s.params.pageH ≤ r) (hhi : r < (s.page + 1) * s.params.pageH) :
    s.rebase (r * s.params.wb + c) = some ((r - s.page * s.params.pageH) * s.params.wb + c) ∧
      (r - s.page * s.params.pageH) * s.params.wb + c < s.params.pageBytes := by
  obtain ⟨d, rfl⟩ := Nat.exists_eq_add_of_le hlo
  have hd : d < s.params.pageH := by rw [Nat.succ_mul] at hhi; omega
  have hbase : (s.page * s.params.pageH + d) * s.params.wb + c
      = s.page * s.params.pageBytes + (d * s.params.wb + c) := by
    rw [Params.pageBytes]; ring
  have hin : d * s.params.wb + c < s.params.pageBytes := by
    calc d * s.params.wb + c < (d + 1) * s.params.wb := by rw [Nat.succ_mul]; omega
      _ ≤ s.params.pageH * s.params.wb := Nat.mul_le_mul_right _ hd
      _ = s.params.pageBytes := Nat.mul_comm _ _
  rw [hbase, Nat.add_sub_cancel_left, State.rebase, if_pos hp, Nat.succ_mul, if_pos (by omega),
    Nat.add_sub_cancel_left]
  exact ⟨rfl, hin⟩

/-! ## The bits of a wire byte, by its source (R197, R235) -/

section Lanes
variable (s : State) (r c : Nat) {i : Nat} (hi : i < 8)
include hi

/-- Through T, lane `i` is the inverse of the source byte's lane `7 - i` (R232, R235). -/
theorem State.pixelByte_getLsbD (src : Source) :
    (s.pixelByte src r c).getLsbD i = !(s.sourceByte src r c).getLsbD (7 - i) :=
  wireT_getLsbD _ hi

/-- From FB: the framebuffer's byte, or PAD_FB's beyond the store. -/
theorem State.pixelByte_fb_getLsbD :
    (s.pixelByte .fb r c).getLsbD i = !(if r * s.params.wb + c < s.params.fbBytes
      then (s.fbByte (r * s.params.wb + c)).getLsbD (7 - i) else s.params.padFb.getLsbD (7 - i)) := by
  rw [s.pixelByte_getLsbD r c hi, State.sourceByte, apply_ite (BitVec.getLsbD · (7 - i))]

/-- From SRC: the byte at L_BASE + k modulo 2^32 for k below L_SIZE, or PAD_BMP's (R65, R203). -/
theorem State.pixelByte_bmp_getLsbD :
    (s.pixelByte .bmp r c).getLsbD i = !(if r * s.params.wb + c < s.latched.lSize.toNat
      then (s.srcByte (s.latched.lBase + BitVec.ofNat 32 (r * s.params.wb + c))).getLsbD (7 - i)
      else s.params.padBmp.getLsbD (7 - i)) := by
  rw [s.pixelByte_getLsbD r c hi, State.sourceByte, apply_ite (BitVec.getLsbD · (7 - i))]

/-- ERASE's byte is white in every lane (R208). -/
theorem State.pixelByte_zero_getLsbD : (s.pixelByte .zero r c).getLsbD i = true := by
  rw [s.pixelByte_getLsbD r c hi, State.sourceByte, BitVec.getLsbD_zero, Bool.not_false]

end Lanes

/-! ## The source port's address (R65) -/

/-- The address of SRC byte `k`, as a number modulo 2^32. -/
theorem word_add_ofNat (b : Word) (k : Nat) :
    b + BitVec.ofNat 32 k = BitVec.ofNat 32 ((b.toNat + k) % 2 ^ 32) := by
  apply BitVec.eq_of_toNat_eq
  simp

/-- A `Pix` with nothing on offer reads SRC for a bitmap byte below L_SIZE, and for nothing else
(R65, R197). -/
theorem State.sourceRead_of_pix {s : State} {src : Source} {r c : Nat} (hq : s.txq = none)
    (ha : s.acts[s.pc]? = some (.pix src r c)) :
    s.sourceRead = if src = .bmp ∧ r * s.params.wb + c < s.latched.lSize.toNat
      then some (s.latched.lBase + BitVec.ofNat 32 (r * s.params.wb + c)) else none := by
  rw [State.sourceRead, ha]
  cases src <;> simp [hq]

end Sys2Proof.Machine

open Sys2Proof Sys2Proof.Machine

/-- Settles O52: each source by its own lemma, the page's through SETPIXEL's rebase. -/
theorem wireBytesCarryPixelsInverted : Obligations.WireBytesCarryPixelsInverted := by
  intro s r c i hl hi hc P k a
  have haddr : s.latched.lBase + BitVec.ofNat 32 k = a := word_add_ofNat _ _
  have hindex : fbIndex P (8 * c + i) r = k := fbIndex_lane P r c hi
  rw [hindex, fbBit_lane c hi]
  refine ⟨s.pixelByte_fb_getLsbD r c hi, fun hp hlo hhi => ?_, ?_, s.pixelByte_zero_getLsbD r c hi,
    fun src hq ha => ?_⟩
  · obtain ⟨hrebase, hin⟩ := State.rebase_of_page_row hp hc hlo hhi
    obtain ⟨-, -, -, -, -, -, -, -, -, -, hstore⟩ := Params.legal_geometry hl
    exact ⟨_, hrebase, hin.trans_le hstore, rfl, s.pixelByte_getLsbD r c hi .page⟩
  · rw [← haddr]
    exact s.pixelByte_bmp_getLsbD r c hi
  · rw [← haddr]
    exact State.sourceRead_of_pix hq ha

/-- Settles O50, lane by lane, with the rules' examples evaluated. -/
theorem transformIsEightInvertedLanes : Obligations.TransformIsEightInvertedLanes :=
  ⟨fun b i hi => ⟨rev8_getLsbD b i hi, wireT_getLsbD b hi⟩, fun b => ⟨rfl, wireT_eq_rev8_not b⟩,
    by decide, by decide, fun c hc => by fin_cases hc <;> decide⟩

/-- Settles O51: an involution is a bijection, and the 16 fixed points are found by trying all 256 bytes. -/
theorem transformIsAnInvolution : Obligations.TransformIsAnInvolution :=
  ⟨fun b => ⟨wireT_involutive b, rev8_not_rev8_not b, rev8_rev8 b⟩, wireT_involutive.bijective,
    by decide, wireT_eq_self_iff⟩

end

section
/-! PROOFS. FILL and SETPIXEL where they are accepted, and the bit a logical pixel names
(46_pixel_access.md). -/

namespace Sys2Proof.Machine

/-- With nothing running or during a page request, FILL and SETPIXEL are accepted (R120). -/
theorem State.rejection_pixel {s : State} (h : s.seqBusy = true → s.pageReq = true) :
    s.rejection .pixel = none := by
  by_cases hb : s.seqBusy = true
  · exact (State.rejection_request hb (h hb)).2.1
  · exact (State.rejection_idle (Bool.eq_false_iff.2 hb)).2.1

/-- FILL fills the store (R245). -/
theorem exec_fill {s : State} (h : s.seqBusy = true → s.pageReq = true) :
    exec .fill s =
      .next (State.fillFb { s with lastErr := .accepted } s.params.fbBytes (fillByte s.argColor)) :=
  congrArg Host.Outcome.next (State.accept_of_none (State.rejection_pixel h) _)

/-- SETPIXEL paints at its signed coordinates (R242). -/
theorem exec_setpixel {s : State} (h : s.seqBusy = true → s.pageReq = true) :
    exec .setpixel s =
      .next (State.setPixel { s with lastErr := .accepted } s.argX.toInt s.argY.toInt s.argColor) :=
  congrArg Host.Outcome.next (State.accept_of_none (State.rejection_pixel h) _)

/-! ## Coordinates and colours (R94, R95, R244) -/

/-- X is ARG0[15:0] (R94). -/
theorem State.argX_eq (s : State) : s.argX = BitVec.ofNat 16 (s.args.arg0.toNat % 65536) := by
  rw [← extractLsb'_low_toNat, BitVec.ofNat_toNat, BitVec.setWidth_eq, State.argX]

/-- Y is ARG0[31:16] (R94). -/
theorem State.argY_eq (s : State) : s.argY = BitVec.ofNat 16 (s.args.arg0.toNat / 65536) := by
  rw [← extractLsb'_high_toNat, BitVec.ofNat_toNat, BitVec.setWidth_eq, State.argY]

/-- COLOR is black exactly where ARG1[15:0] is 0 (R95, R244). -/
theorem State.isBlack_argColor (s : State) :
    isBlack s.argColor = decide (s.args.arg1.toNat % 65536 = 0) := by
  rw [Bool.eq_iff_iff, decide_eq_true_eq, ← extractLsb'_low_toNat, isBlack, beq_iff_eq, BitVec.toNat_eq]
  rfl

/-- FILL's byte is all ones for black, and zero for any other colour (R245). -/
theorem State.fillByte_argColor (s : State) :
    fillByte s.argColor = if s.args.arg1.toNat % 65536 = 0 then 0xFF#8 else 0x00#8 := by
  simp only [fillByte, s.isBlack_argColor, decide_eq_true_eq]

/-- A painted byte has the colour in its bit `k`, and its other bits as before (R244). -/
theorem paintBit_getLsbD (b : Byte) {k : Nat} (hk : k < 8) (black : Bool) (n : Nat) :
    (paintBit b k black).getLsbD n = if n = k then black else b.getLsbD n := by
  have hmask : (1#8 <<< k).getLsbD n = decide (n = k) := by
    rw [← BitVec.twoPow_eq, BitVec.getLsbD_twoPow]
    simp [hk, eq_comm]
  cases black with
  | true =>
    rw [paintBit, if_pos rfl, BitVec.getLsbD_or, hmask]
    by_cases hn : n = k <;> simp [hn]
  | false =>
    rw [paintBit, if_neg Bool.false_ne_true, BitVec.getLsbD_and, BitVec.getLsbD_not, hmask]
    by_cases hn : n = k
    · simp [hn]
    · simpa [hn] using BitVec.lt_of_getLsbD

/-! ## The bit a logical pixel names -/

/-- The four values of ROTATION (R32). -/
theorem rotation_cases : ∀ rot : BitVec 2, rot = 0#2 ∨ rot = 1#2 ∨ rot = 2#2 ∨ rot = 3#2 := by decide

/-- The logical bounds: the panel's, with its sides swapped in rotations 1 and 3 (R240). -/
theorem inBounds_iff (p : Params) (rot : BitVec 2) (x y : Int) :
    inBounds p rot x y = true ↔ 0 ≤ x ∧ 0 ≤ y ∧
      (if rot = 1#2 ∨ rot = 3#2 then x < p.height ∧ y < p.width else x < p.width ∧ y < p.height) := by
  rcases rotation_cases rot with rfl | rfl | rfl | rfl <;>
    simp only [inBounds, logicalWidth, logicalHeight, BitVec.reduceEq, or_true, or_false, or_self, if_true,
      if_false, Bool.and_eq_true, decide_eq_true_eq] <;>
    omega

/-- The physical column of a logical pair, in integers (R241). -/
def physicalX (p : Params) (rot : BitVec 2) (x y : Int) : Int :=
  if rot = 0#2 then x else if rot = 1#2 then p.width - 1 - y else if rot = 2#2 then p.width - 1 - x else y

/-- The physical row of a logical pair, in integers (R241). -/
def physicalY (p : Params) (rot : BitVec 2) (x y : Int) : Int :=
  if rot = 0#2 then y else if rot = 1#2 then x else if rot = 2#2 then p.height - 1 - y else p.height - 1 - x

/-- A pair in bounds is remapped to its physical pixel, which is on the panel (R241): no subtraction of the
remap is cut off at 0. -/
theorem remap_of_inBounds {p : Params} {rot : BitVec 2} {x y : Int} {q : Nat × Nat}
    (hq : remap p rot x.toNat y.toNat = q) (h : inBounds p rot x y = true) :
    (q.1 : Int) = physicalX p rot x y ∧ (q.2 : Int) = physicalY p rot x y ∧ q.1 < p.width ∧ q.2 < p.height := by
  subst hq
  rw [inBounds_iff] at h
  rcases rotation_cases rot with rfl | rfl | rfl | rfl <;>
    simp only [remap, physicalX, physicalY, BitVec.reduceEq, or_true, or_false, or_self, if_true, if_false]
      at h ⊢ <;>
    omega

/-- Page clipping in integers: a panel byte has a place in the store where it is on the page being drawn,
and that is its distance from the page's first byte (R243). -/
theorem State.rebase_eq_some_iff {s : State} {base : Int}
    (hbase : base = if s.paging then (s.page * s.params.pageBytes : Int) else 0) (i j : Nat) :
    s.rebase i = some j ↔
      (s.paging = true → base ≤ i ∧ i < base + s.params.pageBytes) ∧ (j : Int) = i - base := by
  unfold State.rebase
  by_cases hp : s.paging = true
  · have hcast : base = (s.page * s.params.pageBytes : Nat) := by rw [hbase, if_pos hp, Nat.cast_mul]
    rw [if_pos hp, Nat.succ_mul, hcast, Option.ite_none_right_eq_some, Option.some.injEq]
    simp only [hp, true_implies]
    omega
  · rw [if_neg hp, hbase, if_neg hp, Option.some.injEq]
    simp only [hp, Bool.false_eq_true, false_implies, true_and]
    omega

/-- A logical pair names a bit where it is in bounds, its pixel's byte is on the page and the place of that
byte is in the store (R242). -/
theorem State.pixelTarget_eq_some_iff {s : State} {x y : Int} {q : Nat × Nat}
    (hq : remap s.params s.rotation x.toNat y.toNat = q) (j k : Nat) :
    s.pixelTarget x y = some (j, k) ↔ inBounds s.params s.rotation x y = true ∧
      s.rebase (fbIndex s.params q.1 q.2) = some j ∧ j < s.params.fbBytes ∧ fbBit q.1 = k := by
  unfold State.pixelTarget
  rw [hq]
  by_cases hb : inBounds s.params s.rotation x y = true
  · cases hr : s.rebase (fbIndex s.params q.1 q.2) with
    | none => simp [hb, hr]
    | some i =>
      simp only [hb, if_true, hr, Option.ite_none_right_eq_some, Option.some.injEq, Prod.mk.injEq, true_and]
      exact ⟨fun ⟨hi, hj, hk⟩ => ⟨hj, hj ▸ hi, hk⟩, fun ⟨hj, hi, hk⟩ => ⟨hj ▸ hi, hj, hk⟩⟩
  · simp [hb]

/-- The bit a logical pixel names is one of a byte's eight (R62). -/
theorem State.pixelTarget_bit_lt {s : State} {x y : Int} {j k : Nat} (h : s.pixelTarget x y = some (j, k)) :
    k < 8 := by
  obtain ⟨-, -, -, rfl⟩ := (State.pixelTarget_eq_some_iff rfl j k).1 h
  exact Nat.lt_succ_of_le (Nat.sub_le 7 _)

/-! ## SETPIXEL's effect (R242, R247) -/

/-- Where the pixel names a bit, that byte is written and CLIP cleared. -/
theorem State.setPixel_of_some {s : State} {x y : Int} {i k : Nat} (h : s.pixelTarget x y = some (i, k))
    (c : Half) :
    s.setPixel x y c = (s.writeFb i (paintBit (s.fbByte i) k (isBlack c))).setClip false := by
  simp only [State.setPixel, h]

/-- Where it names none, CLIP is set. -/
theorem State.setPixel_of_none {s : State} {x y : Int} (h : s.pixelTarget x y = none) (c : Half) :
    s.setPixel x y c = s.setClip true := by
  simp only [State.setPixel, h]

/-- A painted pixel is one bit of the framebuffer. -/
theorem State.fbByte_setPixel_getLsbD {s : State} {x y : Int} {i k : Nat}
    (h : s.pixelTarget x y = some (i, k)) (c : Half) (j n : Nat) :
    ((s.setPixel x y c).fbByte j).getLsbD n =
      if j = i ∧ n = k then isBlack c else (s.fbByte j).getLsbD n := by
  have hbyte : (s.setPixel x y c).fbByte j
      = if j = i then paintBit (s.fbByte i) k (isBlack c) else s.fbByte j := by
    rw [State.setPixel_of_some h]
    exact s.fbByte_writeFb i j _
  rw [hbyte]
  by_cases hj : j = i
  · subst hj
    simp only [if_true, true_and, paintBit_getLsbD _ (State.pixelTarget_bit_lt h)]
  · simp only [hj, if_false, false_and]

end Sys2Proof.Machine

open Sys2Proof Sys2Proof.Machine

/-- Settles O9: FILL is accepted, and its body is a fill of the store, as a read and the canonical form see
it. -/
theorem fillWritesEveryStoreByte : Obligations.FillWritesEveryStoreByte := by
  intro s h
  refine ⟨_, exec_fill h, rfl, fun i hi => ?_, fun i hi => ?_, fun hwf => Memory.fillTo_wf hwf _ _⟩
  · rw [State.fbByte_fillFb, if_pos hi, s.fillByte_argColor]
  · rw [State.fbByte_fillFb, if_neg (Nat.not_lt.2 hi)]
    rfl

/-- Settles O10: SETPIXEL is accepted, and its body paints the target's bit or drops the write. -/
theorem setpixelPaintsOneBitOrClips : Obligations.SetpixelPaintsOneBitOrClips := by
  intro s h x y
  have hx : s.argX.toInt = x := congrArg BitVec.toInt s.argX_eq
  have hy : s.argY.toInt = y := congrArg BitVec.toInt s.argY_eq
  have hexec : exec .setpixel s = .next (State.setPixel { s with lastErr := .accepted } x y s.argColor) := by
    rw [← hx, ← hy]
    exact exec_setpixel h
  have htarget : State.pixelTarget { s with lastErr := .accepted } x y = s.pixelTarget x y := rfl
  refine ⟨_, hexec, ?_⟩
  cases ht : s.pixelTarget x y with
  | some b =>
    obtain ⟨i, k⟩ := b
    have hset := State.setPixel_of_some (htarget.trans ht) s.argColor
    refine ⟨by rw [hset]; rfl, by rw [hset]; rfl, fun j n => ?_⟩
    rw [State.fbByte_setPixel_getLsbD (htarget.trans ht), s.isBlack_argColor]
    rfl
  | none =>
    rw [State.setPixel_of_none (htarget.trans ht)]
    exact ⟨rfl, rfl, rfl⟩

/-- Settles O11: bounds, remap, page and store check each by its own lemma in integers. -/
theorem pixelTargetIsTheRemappedBit : Obligations.PixelTargetIsTheRemappedBit := by
  intro s x y _ W H swapped bounded px py i base onPage
  have hbounded : inBounds s.params s.rotation x y = true ↔ bounded := inBounds_iff _ _ x y
  obtain ⟨q, hq⟩ : ∃ q, remap s.params s.rotation x.toNat y.toNat = q := ⟨_, rfl⟩
  have hremap : bounded → (q.1 : Int) = px ∧ (q.2 : Int) = py ∧ q.1 < s.params.width ∧ q.2 < s.params.height :=
    fun hb => remap_of_inBounds hq (hbounded.2 hb)
  refine ⟨fun j k => ?_, fun hb => ?_⟩
  · rw [State.pixelTarget_eq_some_iff hq, hbounded]
    refine and_congr_right fun hb => ?_
    obtain ⟨hx, hy, -⟩ := hremap hb
    have hi : (fbIndex s.params q.1 q.2 : Int) = i := by
      rw [fbIndex, Params.wb]
      push_cast
      rw [hx, hy]
    have hk : (fbBit q.1 : Int) = 7 - px % 8 := by
      rw [← hx, fbBit]
      omega
    rw [State.rebase_eq_some_iff (base := base) rfl, hi, and_assoc]
    exact and_congr_right fun _ => by omega
  · obtain ⟨hx, hy, hW, hH⟩ := hremap hb
    omega

end

section
/-! PROOFS. Rejection as the one exception, and what it leaves to a running operation (60_exceptions.md). -/

namespace Sys2Proof

/-- How each host request is treated while an operation runs (R120); a wire command is no request. -/
def Instr.requestClass : Instr → Option Machine.RequestClass
  | .nop => some .nop
  | .fill | .setpixel => some .pixel
  | .pagedone => some .pageDone
  | .init | .update | .drawbitmap _ | .updatewindow | .drawpaged | .erase _ | .setrotation => some .idleOnly
  | _ => none

end Sys2Proof

namespace Sys2Proof.Machine

/-! ## Requests by their class (R120) -/

/-- Every host request has a class. -/
theorem exists_requestClass {i : Instr} (h : i.isRequest = true) : ∃ cls, i.requestClass = some cls := by
  cases i with
  | nop | init | fill | setpixel | update | drawbitmap _ | updatewindow | drawpaged | erase _ | setrotation
  | pagedone => exact ⟨_, rfl⟩
  | _ => cases h

/-- NOP is the only request of its class (R122). -/
theorem eq_nop_of_requestClass {i : Instr} (h : i.requestClass = some .nop) : i = .nop := by
  cases i with
  | nop => rfl
  | _ => cases h

/-- The meaning of a request is the acceptance of its class, with a body of its own (R120). -/
theorem exec_eq_accept {i : Instr} {cls : RequestClass} (h : i.requestClass = some cls) (s : State) :
    ∃ body, exec i s = .next (s.accept cls body) := by
  cases i <;> cases h <;> exact ⟨_, rfl⟩

/-- A request whose class is rejected changes LAST_ERR only (R265). -/
theorem exec_of_rejected {i : Instr} {cls : RequestClass} {c : ErrCode} {s : State}
    (h : i.requestClass = some cls) (hr : s.rejection cls = some c) : exec i s = .next (s.reject c) := by
  obtain ⟨body, he⟩ := exec_eq_accept h s
  rw [he, State.accept_of_some hr]

/-- While an operation runs, a request that needs the EPS idle is rejected with BUSY, page request or not
(R262). -/
theorem State.rejection_idleOnly_of_busy {s : State} (h : s.seqBusy = true) :
    s.rejection .idleOnly = some .busy := by
  simp only [State.rejection, h, if_true]

/-- While an operation runs with no page request, no request does more than write LAST_ERR: NOP clears it
and every other is rejected with BUSY (R122, R262). -/
theorem exec_request_of_running {i : Instr} {s : State} (hi : i.isRequest = true) (hb : s.seqBusy = true)
    (hp : s.pageReq = false) : ∃ c, exec i s = .next (s.reject c) := by
  obtain ⟨cls, hcls⟩ := exists_requestClass hi
  obtain ⟨hidle, hpixel, hpage⟩ := State.rejection_running hb hp
  cases cls with
  | nop =>
    obtain rfl := eq_nop_of_requestClass hcls
    exact ⟨.accepted, exec_nop s⟩
  | pixel => exact ⟨.busy, exec_of_rejected hcls hpixel⟩
  | pageDone => exact ⟨.busy, exec_of_rejected hcls hpage⟩
  | idleOnly => exact ⟨.busy, exec_of_rejected hcls hidle⟩

/-! ## No meaning stops (R212, R260) -/

/-- Every instruction's meaning answers a next state. -/
theorem exec_answers_next (i : Instr) (s : State) : ∃ t, exec i s = .next t := by
  cases i <;> exact ⟨_, rfl⟩

/-! ## Host accesses that are no request (R34, R261) -/

/-- Such an access writes LAST_ERR, the ARG registers and the read data at most; of the ports, `h_rdata` is
the only one it writes. -/
theorem State.hostAccess_frame (s : State) (a : HostAccess) :
    ∃ e r d, s.hostAccess a = { s with lastErr := e, args := r, pins := { s.pins with hRdata := d } } := by
  unfold State.hostAccess
  split_ifs
  · exact ⟨.illegal, s.args, s.pins.hRdata, rfl⟩
  · obtain ⟨r, h⟩ := s.hostWriteReg_outcome a.offset a.wdata
    exact ⟨s.lastErr, r, s.pins.hRdata, h⟩
  · exact ⟨s.lastErr, s.args, s.pins.hRdata, rfl⟩
  · exact ⟨s.lastErr, s.args, s.hostRead a.offset, rfl⟩
  · exact ⟨s.lastErr, s.args, 0#32, rfl⟩

end Sys2Proof.Machine

open Sys2Proof Sys2Proof.Machine

/-- Settles O27: a legal record is not refused, and neither a meaning nor a turn's effect can stop. -/
theorem legalConfigurationNeverStops : Obligations.LegalConfigurationNeverStops := by
  intro s hl
  cases hf : s.fetch with
  | some i => simpa only [step_of_fetch hl hf] using exec_answers_next i s.popTurn
  | none => exact ⟨s.popTurn.turnEffect s.turn, by simp only [step, hl, if_true, hf]⟩

/-- Settles O34: on the host's turn a step is a request, which can only write LAST_ERR here, or another
access, by its frame. -/
theorem hostCannotDisturbARunningOperation : Obligations.HostCannotDisturbARunningOperation := by
  intro s t a ha hb hp hs
  obtain ⟨-, ⟨_, i, -, -, -, hi, -, -, he⟩ | ⟨b, -, -, rfl⟩ | ⟨hq, -⟩ | ⟨hh, -, -⟩⟩ := step_cases hs
  · obtain ⟨c, hc⟩ := exec_request_of_running (s := s.popTurn) hi hb hp
    obtain rfl : s.popTurn.reject c = t := Host.Outcome.next.inj (hc.symm.trans he)
    rfl
  · obtain ⟨e, r, d, h⟩ := s.popTurn.hostAccess_frame b
    rw [h]
    rfl
  · simp [ha] at hq
  · exact absurd ha (hh a)

/-- Settles O15: the first requests are all of the class that needs the EPS idle; FILL, SETPIXEL and PAGEDONE
are rejected because there is no page request. -/
theorem requestsWhileBusyAreRejected : Obligations.RequestsWhileBusyAreRejected := by
  intro s i hb hi
  rcases hi with hi | ⟨hp, hi⟩
  · have hclass : ∀ j ∈ [Instr.init, .update, .drawbitmap false, .drawbitmap true, .updatewindow, .drawpaged,
        .erase false, .erase true, .setrotation], j.requestClass = some .idleOnly := by decide
    exact exec_of_rejected (hclass i hi) (State.rejection_idleOnly_of_busy hb)
  · obtain ⟨-, hpixel, hpage⟩ := State.rejection_running hb hp
    simp only [List.mem_cons, List.not_mem_nil, or_false] at hi
    rcases hi with rfl | rfl | rfl
    · exact exec_of_rejected rfl hpixel
    · exact exec_of_rejected rfl hpixel
    · exact exec_of_rejected rfl hpage

/-- Settles O16: with nothing running PAGEDONE is rejected with STATE. -/
theorem pagedoneWithNothingRunningIsRejected : Obligations.PagedoneWithNothingRunningIsRejected := by
  intro s h
  obtain ⟨-, -, hpage⟩ := State.rejection_idle h
  exact exec_of_rejected rfl hpage

end

section
/-! PROOFS. The block reset: the state after it, and what moves while it is held (70_reset_and_hazards.md). -/

namespace Sys2Proof.Machine

/-! ## The state after reset -/

/-- Nothing is requested, waited for or on offer after reset (R280). -/
theorem calm_reset : Calm State.reset := ⟨rfl, rfl, rfl, rfl, rfl, rfl⟩

/-- The state after reset is canonical in its memories, idle and calm (R48, R280). -/
theorem inv_reset : Inv State.reset := by
  obtain ⟨hfb, hsrc⟩ := State.reset_memories_wf
  refine inv_iff.2 ⟨⟨rfl, hfb, ?_, hsrc⟩, ?_, calm_reset.pendingInv⟩
  · intro c hc
    cases hc
  · exact
      { idle := fun _ => ⟨rfl, rfl, rfl⟩
        running := by intro hb; cases hb
        cursor := by intro hp; cases hp
        cursorLegal := .inl rfl
        inReset := fun _ => rfl }

/-! ## `rst_n` driven (R280, R281) -/

section Reset

variable {s : State} {ts : List Turn}

/-- A step on a level of `rst_n` drives it. -/
theorem step_rstN {level : Bool} (hl : s.params.legal = true) (ht : s.turns = .rstN level :: ts) :
    step s = .next (State.driveRstN { s with turns := ts } level) := by
  have htn : s.turn = .rstN level := by rw [State.turn, ht, List.headD_cons]
  rw [step_other hl (by simp [htn]) (by simp [htn]), htn, State.popTurn, ht, List.tail_cons]
  rfl

/-! ## `rst_n` low -/

/-- While `rst_n` is low no turn runs an instruction. -/
theorem State.fetch_of_rstN_low (h : s.pins.rstN = false) : s.fetch = none := by
  unfold State.fetch
  split
  · simp [State.presented, h]
  · simp [State.fetchWire, h]
  · rfl

/-- While `rst_n` is low a step is its turn's effect. -/
theorem step_of_rstN_low (hl : s.params.legal = true) (h : s.pins.rstN = false) :
    step s = .next (s.popTurn.turnEffect s.turn) := by
  simp only [step, hl, if_true, State.fetch_of_rstN_low h]

/-- While `rst_n` is low a host write is ignored, CMD's included. -/
theorem State.hostAccess_write_of_rstN_low {a : HostAccess} (h : s.pins.rstN = false)
    (hw : a.write = true) : s.hostAccess a = s := by
  simp [State.hostAccess, hw, h]

/-- While `rst_n` is low a host read returns 0. -/
theorem State.hostAccess_read_of_rstN_low {a : HostAccess} (h : s.pins.rstN = false)
    (hw : a.write = false) :
    s.hostAccess a = { s with pins := { s.pins with hRdata := 0#32 } } := by
  simp [State.hostAccess, hw, h]

/-- While `rst_n` is low the sequencer does nothing. -/
theorem State.sequencerStep_of_rstN_low (h : s.pins.rstN = false) : s.sequencerStep = s := by
  simp [State.sequencerStep, h]

end Reset

/-! ## Held in reset -/

/-- `s` with every register at its reset value and `rst_n` low: what an assertion of `rst_n` leaves, but for
the observation of `panel_rst_n`. -/
def State.heldInReset (s : State) : State := { s.driveRstN false with rstTrace := s.rstTrace }

/-- An assertion of `rst_n` also observes `panel_rst_n` going to 1 where it was 0 (R46). -/
theorem State.driveRstN_low (s : State) :
    s.driveRstN false = { s.heldInReset with
      rstTrace := if s.rstOut then s.rstTrace else s.rstTrace ++ [true] } := by
  simp [State.heldInReset, State.driveRstN, State.blockReset, State.driveRst]

/-- Held in reset, every turn but the release moves the levels that the other agents drive at most: `busy_s`
only on a turn of the busy line, SRC only on a host's write of it. -/
theorem State.turnEffect_heldInReset (s : State) {tn : Turn} (hr : tn ≠ .rstN true) :
    ∃ p b m, s.heldInReset.turnEffect tn = State.heldInReset { s with pins := p, busyS := b, src := m } ∧
      ((∀ level, tn ≠ .busyIn level) → b = s.busyS) ∧ ((∀ a v, tn ≠ .srcWrite a v) → m = s.src) := by
  have hlow : s.heldInReset.pins.rstN = false := rfl
  cases tn with
  | host a =>
    refine ⟨s.pins, s.busyS, s.src, ?_, fun _ => rfl, fun _ => rfl⟩
    cases hw : a.write with
    | true => exact State.hostAccess_write_of_rstN_low hlow hw
    | false => exact State.hostAccess_read_of_rstN_low hlow hw
  | sequencer =>
    exact ⟨s.pins, s.busyS, s.src, State.sequencerStep_of_rstN_low hlow, fun _ => rfl, fun _ => rfl⟩
  | busyIn level => exact ⟨s.pins, _, s.src, rfl, fun h => absurd rfl (h level), fun _ => rfl⟩
  | txReady level =>
    exact ⟨{ s.pins with txReady := level }, s.busyS, s.src, rfl, fun _ => rfl, fun _ => rfl⟩
  | sAck level => exact ⟨{ s.pins with sAck := level }, s.busyS, s.src, rfl, fun _ => rfl, fun _ => rfl⟩
  | srcWrite a v => exact ⟨s.pins, s.busyS, s.src.write a.toNat v, rfl, fun _ => rfl, fun h => absurd rfl (h a v)⟩
  | tick => exact ⟨s.pins, s.busyS, s.src, rfl, fun _ => rfl, fun _ => rfl⟩
  | rstN level =>
    cases level with
    | true => exact absurd rfl hr
    | false => exact ⟨s.pins, s.busyS, s.src, rfl, fun _ => rfl, fun _ => rfl⟩

end Sys2Proof.Machine

open Sys2Proof Sys2Proof.Machine

/-- Settles O29: nothing runs and nothing is pending after reset. -/
theorem resetStateHasTheInvariant : Obligations.ResetStateHasTheInvariant := inv_reset

/-- Settles O57: the assertion and the release are what driving `rst_n` does, and while it is low a step is
its turn's effect, which moves the other agents' levels at most. -/
theorem blockResetLeavesTheResetValues : Obligations.BlockResetLeavesTheResetValues := by
  intro s ts hl atReset
  refine ⟨fun ht => ?_, fun hs hr => ?_, fun hlow addr v ht => ?_, fun hlow ht => ?_, fun ht => ?_⟩
  · rw [step_rstN hl ht, State.driveRstN_low]
    rfl
  · have hpop : s.popTurn = s.popTurn.heldInReset := congrArg State.popTurn hs
    have hlow : s.pins.rstN = false := congrArg (fun u => u.pins.rstN) hs
    obtain ⟨p, b, m, he, hb, hm⟩ := s.popTurn.turnEffect_heldInReset hr
    exact ⟨_, by rw [step_of_rstN_low hl hlow, hpop, he], rfl, hb, hm⟩
  · have htn : s.turn = .host ⟨true, addr, v⟩ := by rw [State.turn, ht, List.headD_cons]
    rw [step_of_rstN_low hl hlow, htn, State.turnEffect,
      State.hostAccess_write_of_rstN_low (s := s.popTurn) hlow rfl, State.popTurn, ht, List.tail_cons]
  · rw [step_of_rstN_low hl hlow, ht, State.turnEffect,
      State.sequencerStep_of_rstN_low (s := s.popTurn) hlow, State.popTurn]
  · exact step_rstN hl ht

end
